-- ==== Sys2Proof/Word.lean ====
section
/-! DEFINITION. The byte of the stream and of the command word (00_scope R11, R12: a byte is an unsigned 8-bit value). -/

namespace Sys2Proof

/-- An unsigned 8-bit value, 0 to 255 (R12). -/
abbrev Byte := BitVec 8

end Sys2Proof
end

