-- ==== Sys2Proof/Config.lean ====
section
/-! DEFINITION. The implementation parameters of 00_scope rule R11. The two open parameters stand elsewhere:
`TErr` (P1) is open here, and Machine/State.lean makes its type; `NUM_INSTANCES` (P2) is the argument of Machine/System.lean. -/

namespace Sys2Proof.Config

/-- `SUPPORTED_VER`: the one supported protocol version (R11). -/
def supportedVer : Byte := 0x05

/-- `MAX_METHODS`: the longest method list (R11). -/
abbrev maxMethods : Nat := 255

/-- `MAX_DLEN`: the longest domain name in bytes (R11). -/
abbrev maxDlen : Nat := 255

/-- `GBUF_DEPTH`: the largest single read group, `MAX_DLEN + 2` bytes (R11). -/
abbrev gbufDepth : Nat := 257

/-- Bytes of an IPv4 address (R11). -/
abbrev ip4Bytes : Nat := 4

/-- Bytes of an IPv6 address (R11). -/
abbrev ip6Bytes : Nat := 16

/-- Open parameter P1 (R11): which numbers stand for a native error of the transport, besides 0. Nothing in Lean can evaluate it,
so how many errors the transport has is open (DESIGN CHOICE, log 1). -/
opaque isNativeError : Nat → Bool

end Sys2Proof.Config
end

