-- ==== Sys2Proof/Syntax.lean ====
section
/-! DEFINITION. The instructions: one constructor per row of spec/opcode_table.json.
The eight operations and the eight reserved rows are host command words (30_encoding R301, R330); the other eight rows are
the wire values the block dispatches on (00_scope R2). A reserved row with more than one word carries its word. -/

namespace Sys2Proof

/-- One constructor per row of the opcode table. Operands are no part of a word: they are in the operand registers (R300). -/
inductive Instr where
  /-- `HS`, word 0x01: decode a handshake request (R450). -/
  | hs
  /-- `ADDR`, word 0x02: decode an address, domain form allowed (R420). -/
  | addr
  /-- `SADDR`, word 0x03: decode a socket address, IPv4 or IPv6 only (R421). -/
  | saddr
  /-- `REQ`, word 0x04: decode a TCP request header (R480). -/
  | req
  /-- `RD16`, word 0x05: big-endian 16-bit read (R410). -/
  | rd16
  /-- `RD32`, word 0x06: big-endian 32-bit read (R411). -/
  | rd32
  /-- `ALEN`, word 0x07: address wire length (R512). -/
  | alen
  /-- `RLEN`, word 0x08: response header wire length (R513). -/
  | rlen
  /-- `RESERVED`, word 0x00 (R330). -/
  | reserved00
  /-- `RESERVED`, word 0x09 (R330). -/
  | reserved09
  /-- `RESERVED`, words 0x0A and 0x0B: match 0x0A, mask 0xFE (R330). -/
  | reserved0A (w : Byte)
  /-- `RESERVED`, words 0x0C to 0x0F: match 0x0C, mask 0xFC (R330). -/
  | reserved0C (w : Byte)
  /-- `RESERVED`, words 0x10 to 0x1F: match 0x10, mask 0xF0 (R330). -/
  | reserved10 (w : Byte)
  /-- `RESERVED`, words 0x20 to 0x3F: match 0x20, mask 0xE0 (R330). -/
  | reserved20 (w : Byte)
  /-- `RESERVED`, words 0x40 to 0x7F: match 0x40, mask 0xC0 (R330). -/
  | reserved40 (w : Byte)
  /-- `RESERVED`, words 0x80 to 0xFF: match 0x80, mask 0x80 (R330). -/
  | reserved80 (w : Byte)
  /-- `HS.VER`, wire byte 0x05: stream byte 0 of a handshake request (R451). -/
  | hsVer
  /-- `REQ.VER`, wire byte 0x05: stream byte 0 of a request header (R482). -/
  | reqVer
  /-- `REQ.CMD.CONNECT`, wire byte 0x01: stream byte 1 of a request header (R482, R483). -/
  | reqCmdConnect
  /-- `REQ.CMD.BIND`, wire byte 0x02 (R482, R483). -/
  | reqCmdBind
  /-- `REQ.CMD.UDP_ASSOCIATE`, wire byte 0x03 (R482, R483). -/
  | reqCmdUdpAssociate
  /-- `ATYP.IPV4`, wire byte 0x01: byte 0 of an address (R422, R424). -/
  | atypIpv4
  /-- `ATYP.DOMAIN`, wire byte 0x03 (R422, R427, R429). -/
  | atypDomain
  /-- `ATYP.IPV6`, wire byte 0x04 (R422, R425). -/
  | atypIpv6
  deriving DecidableEq, Repr

end Sys2Proof
end

