-- ==== Sys2Proof/WellFormed.lean ====
section
/-! DEFINITION. Which instructions are well formed: a reserved row's word is one of that row's words (match and mask of the
opcode table). Every other constructor has no operand and is well formed. -/

namespace Sys2Proof

/-- The words a constructor carries belong to its row of the opcode table (R330). -/
def WellFormed : Instr → Bool
  | .reserved0A w => w &&& 0xFE == 0x0A
  | .reserved0C w => w &&& 0xFC == 0x0C
  | .reserved10 w => w &&& 0xF0 == 0x10
  | .reserved20 w => w &&& 0xE0 == 0x20
  | .reserved40 w => w &&& 0xC0 == 0x40
  | .reserved80 w => w &&& 0x80 == 0x80
  | .hs | .addr | .saddr | .req | .rd16 | .rd32 | .alen | .rlen => true
  | .reserved00 | .reserved09 => true
  | .hsVer | .reqVer | .reqCmdConnect | .reqCmdBind | .reqCmdUdpAssociate => true
  | .atypIpv4 | .atypDomain | .atypIpv6 => true

end Sys2Proof
end

