-- ==== Sys2Proof/Decode.lean ====
section
/-! DEFINITION. The decoder and the encoder (30_encoding R300, R301, R330, R340, R350, R351; the rows of the opcode table).
A word is read at a place: as a host command word, or as one of the four wire bytes the block dispatches on. -/

namespace Sys2Proof

/-- Where a word of the table is read: the `format` and `byte` columns of spec/opcode_table.json. -/
inductive Place where
  /-- The command word of a `CMD` event (R300). -/
  | hostCmd
  /-- `VER`, stream byte 0 of HS (R310). -/
  | hsVer
  /-- `VER`, stream byte 0 of REQ (R312). -/
  | reqVer
  /-- `CMD`, stream byte 1 of REQ (R312). -/
  | reqCmd
  /-- `ATYP`, byte 0 of an address (R311). -/
  | atyp
  deriving DecidableEq, Repr

/-- Why a byte sequence is no instruction at a place. -/
inductive DecodeReject where
  /-- An instruction is exactly one 8-bit word (R300). -/
  | notOneWord
  /-- `VER` is not the supported version (R340). -/
  | unsupportedVersion
  /-- The request's command byte is none of the three commands (R340). -/
  | unknownCommand
  /-- The address-type tag is none of the three tags (R340). -/
  | unknownAddressType
  deriving DecidableEq, Repr

/-- The host command word (R300, R301): every 8-bit word belongs to exactly one row. -/
def decodeCmd (w : Byte) : Instr :=
  if w = 0x01 then .hs
  else if w = 0x02 then .addr
  else if w = 0x03 then .saddr
  else if w = 0x04 then .req
  else if w = 0x05 then .rd16
  else if w = 0x06 then .rd32
  else if w = 0x07 then .alen
  else if w = 0x08 then .rlen
  else if w = 0x00 then .reserved00
  else if w = 0x09 then .reserved09
  else if w &&& 0xFE = 0x0A then .reserved0A w
  else if w &&& 0xFC = 0x0C then .reserved0C w
  else if w &&& 0xF0 = 0x10 then .reserved10 w
  else if w &&& 0xE0 = 0x20 then .reserved20 w
  else if w &&& 0xC0 = 0x40 then .reserved40 w
  else .reserved80 w

/-- The wire dispatch byte `VER` of a handshake (R310, R451). -/
def decodeHsVer (b : Byte) : Except DecodeReject Instr :=
  if b = Config.supportedVer then .ok .hsVer else .error .unsupportedVersion

/-- The wire dispatch byte `VER` of a request header (R312, R482). -/
def decodeReqVer (b : Byte) : Except DecodeReject Instr :=
  if b = Config.supportedVer then .ok .reqVer else .error .unsupportedVersion

/-- The wire dispatch byte `CMD` of a request header (R312, R483; the values are general knowledge, G3). -/
def decodeReqCmd (b : Byte) : Except DecodeReject Instr :=
  if b = 0x01 then .ok .reqCmdConnect
  else if b = 0x02 then .ok .reqCmdBind
  else if b = 0x03 then .ok .reqCmdUdpAssociate
  else .error .unknownCommand

/-- The address-type tag (R311, R422). -/
def decodeAtyp (b : Byte) : Except DecodeReject Instr :=
  if b = 0x01 then .ok .atypIpv4
  else if b = 0x03 then .ok .atypDomain
  else if b = 0x04 then .ok .atypIpv6
  else .error .unknownAddressType

/-- Decode one word at its place. -/
def decodeAt (p : Place) (b : Byte) : Except DecodeReject Instr :=
  match p with
  | .hostCmd => .ok (decodeCmd b)
  | .hsVer => decodeHsVer b
  | .reqVer => decodeReqVer b
  | .reqCmd => decodeReqCmd b
  | .atyp => decodeAtyp b

/-- Decode a byte sequence at its place: total, and rejecting by name. -/
def decode (p : Place) : List Byte → Except DecodeReject Instr
  | [b] => decodeAt p b
  | _ => .error .notOneWord

/-- Where an instruction's word is read. -/
def place : Instr → Place
  | .hsVer => .hsVer
  | .reqVer => .reqVer
  | .reqCmdConnect | .reqCmdBind | .reqCmdUdpAssociate => .reqCmd
  | .atypIpv4 | .atypDomain | .atypIpv6 => .atyp
  | .hs | .addr | .saddr | .req | .rd16 | .rd32 | .alen | .rlen => .hostCmd
  | .reserved00 | .reserved09 => .hostCmd
  | .reserved0A _ | .reserved0C _ | .reserved10 _ | .reserved20 _ | .reserved40 _ | .reserved80 _ => .hostCmd

/-- The word of an instruction, from the `match` column of the opcode table (R301, R340). -/
def encode : Instr → Byte
  | .hs => 0x01
  | .addr => 0x02
  | .saddr => 0x03
  | .req => 0x04
  | .rd16 => 0x05
  | .rd32 => 0x06
  | .alen => 0x07
  | .rlen => 0x08
  | .reserved00 => 0x00
  | .reserved09 => 0x09
  | .reserved0A w => w
  | .reserved0C w => w
  | .reserved10 w => w
  | .reserved20 w => w
  | .reserved40 w => w
  | .reserved80 w => w
  | .hsVer => 0x05
  | .reqVer => 0x05
  | .reqCmdConnect => 0x01
  | .reqCmdBind => 0x02
  | .reqCmdUdpAssociate => 0x03
  | .atypIpv4 => 0x01
  | .atypDomain => 0x03
  | .atypIpv6 => 0x04

/-- The host's reading of a table row: an instruction is one 8-bit word, read as a host command word. The wire rows have the
same 8-bit numbers as command words and are told apart by their place, which a bare number does not carry (log 10). -/
def decodeTableWord (nbits w : Nat) : Option Instr :=
  if nbits = 8 ∧ w < 256 then some (decodeCmd (BitVec.ofNat 8 w)) else none

/-- The one pseudo-instruction: `DADDR allow_domain` is ADDR or SADDR (R351). -/
def daddr (allowDomain : Bool) : Instr := if allowDomain then .addr else .saddr

end Sys2Proof
end

