-- ==== Sys2Proof/Machine/State.lean ====
section
/-! DEFINITION. The block's state (10_state), the host's events (R150), the error kinds (R600), and the reasons a step stops. -/

namespace Sys2Proof.Machine

/-- `phase`: operation lifecycle (R105). -/
inductive Phase where
  | idle | busy | done
  deriving DecidableEq, Repr

/-- `fsm`: the decoder's position, its eleven states in the order of R151 (R104). -/
inductive Fsm where
  | none | hsHdr | hsShut | hsMeth | rqHdr | adTag | adV4 | adV6A | adV6P | adDlen | adDbody
  deriving DecidableEq, Repr

/-- `RES_STATUS` (R110). -/
inductive Status where
  | none | ok | err | refused
  deriving DecidableEq, Repr

/-- `RES_KIND` (R110). -/
inductive Kind where
  | none | handshake | address | request | u16 | u32 | length
  deriving DecidableEq, Repr

/-- `TErr`, open parameter P1: the transport's native errors, an opaque type whose values the block copies and never inspects
(R11). An error is a number that the opaque parameter admits; 0 is always one, so that the type has a value
(DESIGN CHOICE, log 1). -/
structure TErr where
  token : { k : Nat // k = 0 ∨ Config.isNativeError k = true }
  deriving DecidableEq, Repr

/-- The error whose number is 0: the one value that is known to exist (log 1). -/
def TErr.zero : TErr := ⟨⟨0, .inl rfl⟩⟩

/-- The causes of an `IOError`, with what each records (R602). -/
inductive IoCause where
  | eof
  | read (e : TErr)
  | shutdown (e : TErr)
  deriving DecidableEq, Repr

/-- The closed error taxonomy, one case per kind, with the payload the block holds (R600). -/
inductive Err where
  | socksVersionNoSupport (ver : Byte)
  | addressTypeNotSupported (code : Byte)
  | invalidDomainEncoding
  | noSupportAuth
  | commandUnSupport (cmd : Byte)
  | invalidReply
  | repliedError
  | protocolIncorrect
  | invalidData
  | ioError (cause : IoCause)
  deriving DecidableEq, Repr

/-- Why a command is refused (R330). -/
inductive RefuseReason where
  | reservedOp
  | badOperand
  deriving DecidableEq, Repr

/-- The host's events (R150). -/
inductive Event where
  /-- `CMD` with `OPB0` to `OPB3` and `OPN`. -/
  | cmd (w b0 b1 b2 b3 : Byte) (n : BitVec 10)
  /-- `BYTE b`: the next byte of the stream. -/
  | byte (b : Byte)
  /-- `EOF`: the stream has ended. -/
  | eof
  /-- `RDERR e`: a transport fault on read. -/
  | rdErr (e : TErr)
  /-- `SHUT_OK`: the write side is closed. -/
  | shutOk
  /-- `SHUT_ERR e`: the shutdown failed. -/
  | shutErr (e : TErr)
  /-- `ACK`: the host has read the result. -/
  | ack
  /-- `ABORT`: cancellation. -/
  | abort
  /-- `RESET`. -/
  | reset
  deriving DecidableEq, Repr

/-- Everything the spec gives one instance of the block (10_state), the stream's position, and the events to come. -/
structure State where
  /-- `CMD`, latched at a `CMD` event (R101). -/
  cmd : Byte
  /-- `OPB0` (R101). -/
  opb0 : Byte
  /-- `OPB1` (R101). -/
  opb1 : Byte
  /-- `OPB2` (R101). -/
  opb2 : Byte
  /-- `OPB3` (R101). -/
  opb3 : Byte
  /-- `OPN` (R101). -/
  opn : BitVec 10
  /-- `op`: the command being executed (R102). -/
  op : BitVec 4
  /-- `allow_domain`: the address decoder's capability flag (R103). -/
  allowDomain : Bool
  /-- `fsm` (R104). -/
  fsm : Fsm
  /-- `phase` (R105). -/
  phase : Phase
  /-- `rd_req`: the block asks the stream for one byte (R105). -/
  rdReq : Bool
  /-- `shut_req`: the block asks the host to close the write side (R105). -/
  shutReq : Bool
  /-- `shut_wr`: the host has confirmed that the write side is closed (R105). -/
  shutWr : Bool
  /-- `need`: bytes missing from the current read group (R107). -/
  need : BitVec 9
  /-- `gcnt`: bytes the group has received (R107). -/
  gcnt : BitVec 9
  /-- `gbuf`: the group buffer (R107). -/
  gbuf : Vector Byte Config.gbufDepth
  /-- `consumed`: stream bytes the operation has taken (R108). -/
  consumed : BitVec 16
  /-- `RES_STATUS` (R110). -/
  resStatus : Status
  /-- `RES_KIND` (R110). -/
  resKind : Kind
  /-- `RES_CONSUMED` (R110, R112). -/
  resConsumed : BitVec 16
  /-- `R_VER` (R110). -/
  rVer : Byte
  /-- `R_NMETH` (R110). -/
  rNmeth : Byte
  /-- `R_METHODS` (R110). -/
  rMethods : Vector Byte Config.maxMethods
  /-- `R_CMD` (R110). -/
  rCmd : Byte
  /-- `R_RSV` (R110). -/
  rRsv : Byte
  /-- `R_ATYP` (R110). -/
  rAtyp : Byte
  /-- `R_IP4` (R110). -/
  rIp4 : Vector Byte Config.ip4Bytes
  /-- `R_IP6` (R110). -/
  rIp6 : Vector Byte Config.ip6Bytes
  /-- `R_FLOW` (R110). -/
  rFlow : BitVec 32
  /-- `R_SCOPE` (R110). -/
  rScope : BitVec 32
  /-- `R_DLEN` (R110). -/
  rDlen : Byte
  /-- `R_NAME` (R110). -/
  rName : Vector Byte Config.maxDlen
  /-- `R_PORT` (R110). -/
  rPort : BitVec 16
  /-- `R_U16` (R110). -/
  rU16 : BitVec 16
  /-- `R_U32` (R110). -/
  rU32 : BitVec 32
  /-- `R_LEN` (R110). -/
  rLen : BitVec 11
  /-- `R_ERR` (R110, R600). -/
  rErr : BitVec 4
  /-- `R_ERR_ARG` (R110). -/
  rErrArg : Byte
  /-- `R_IO_CAUSE` (R110, R602). -/
  rIoCause : BitVec 2
  /-- `R_IO_ERR` (R110, R602). -/
  rIoErr : TErr
  /-- `R_REFUSE` (R110, R330). -/
  rRefuse : BitVec 2
  /-- The stream's own position: bytes taken since the instance was attached to its stream (R115, R228; DEDUCED, log 9). -/
  streamPos : Nat
  /-- The events the host will present, oldest first: the model's own field (DESIGN CHOICE, log 2, safe). -/
  host : List Event
  deriving DecidableEq, Repr

/-- Why a step, or a read of a result register, stops. Each is a stuck state of the model, none an effect of an instruction. -/
inductive Fault where
  /-- Raised by `step` when the host presents nothing: the block never makes a step without an event (R150, U8). Safe (log 3). -/
  | noEvent
  /-- Raised by `onEvent`, and by `exec` of a command outside IDLE: the event is not enabled, so there is no step (R150).
  Safe (log 4). -/
  | notEnabled
  /-- Raised by `exec` of a wire-dispatch row whose byte does not stand in a completed group; no step raises it. Safe (log 10). -/
  | notAtDispatch
  /-- Raised when a group completes in NONE or HS_SHUT, for which R151 gives no rule; unreachable. Safe (log 13). -/
  | noCompletionRule
  /-- Answered by a read of a result register outside its validity (R111, U1 to U3). Safe (log 8). -/
  | invalidRead
  deriving DecidableEq, Repr

/-- Why a step has no meaning. -/
inductive Refusal where
  /-- An instruction the model has no meaning for, by its mnemonic: raised by no arm of this model. Safe. -/
  | notModelled (mnemonic : String)
  deriving DecidableEq, Repr

/-- The state after RESET (R160, R700). Registers the spec leaves unspecified hold 0 (DESIGN CHOICE, log 5, unsafe). -/
def State.reset : State where
  cmd := 0
  opb0 := 0
  opb1 := 0
  opb2 := 0
  opb3 := 0
  opn := 0
  op := 0
  allowDomain := false
  fsm := .none
  phase := .idle
  rdReq := false
  shutReq := false
  shutWr := false
  need := 0
  gcnt := 0
  gbuf := Vector.replicate Config.gbufDepth 0
  consumed := 0
  resStatus := .none
  resKind := .none
  resConsumed := 0
  rVer := 0
  rNmeth := 0
  rMethods := Vector.replicate Config.maxMethods 0
  rCmd := 0
  rRsv := 0
  rAtyp := 0
  rIp4 := Vector.replicate Config.ip4Bytes 0
  rIp6 := Vector.replicate Config.ip6Bytes 0
  rFlow := 0
  rScope := 0
  rDlen := 0
  rName := Vector.replicate Config.maxDlen 0
  rPort := 0
  rU16 := 0
  rU32 := 0
  rLen := 0
  rErr := 0
  rErrArg := 0
  rIoCause := 0
  rIoErr := TErr.zero
  rRefuse := 0
  streamPos := 0
  host := []

end Sys2Proof.Machine
end

