-- ==== Sys2Proof/Machine/Codes.lean ====
section
/-! DEFINITION. The numeric encodings of the enumerated registers and of the error kinds (R104, R105, R110, R600, R602, R330). -/

namespace Sys2Proof.Machine

/-- `phase`: IDLE=0, BUSY=1, DONE=2 (R105). -/
def Phase.code : Phase → BitVec 2
  | .idle => 0
  | .busy => 1
  | .done => 2

/-- `fsm`: 0 to 10 in the order of R151 (R104). -/
def Fsm.code : Fsm → BitVec 4
  | .none => 0
  | .hsHdr => 1
  | .hsShut => 2
  | .hsMeth => 3
  | .rqHdr => 4
  | .adTag => 5
  | .adV4 => 6
  | .adV6A => 7
  | .adV6P => 8
  | .adDlen => 9
  | .adDbody => 10

/-- `RES_STATUS`: NONE=0, OK=1, ERR=2, REFUSED=3 (R110). -/
def Status.code : Status → BitVec 2
  | .none => 0
  | .ok => 1
  | .err => 2
  | .refused => 3

/-- `RES_KIND`: NONE=0, HANDSHAKE=1, ADDRESS=2, REQUEST=3, U16=4, U32=5, LENGTH=6 (R110). -/
def Kind.code : Kind → BitVec 4
  | .none => 0
  | .handshake => 1
  | .address => 2
  | .request => 3
  | .u16 => 4
  | .u32 => 5
  | .length => 6

/-- `R_REFUSE`: RESERVED_OP=1, BAD_OPERAND=2 (R110, R330). -/
def RefuseReason.code : RefuseReason → BitVec 2
  | .reservedOp => 1
  | .badOperand => 2

/-- `R_IO_CAUSE`: EOF=1, READ=2, SHUTDOWN=3 (R602). -/
def IoCause.code : IoCause → BitVec 2
  | .eof => 1
  | .read _ => 2
  | .shutdown _ => 3

/-- The native error a cause records: READ and SHUTDOWN have one, EOF has none (R602). -/
def IoCause.native? : IoCause → Option TErr
  | .eof => none
  | .read e => some e
  | .shutdown e => some e

/-- `R_ERR`: codes 1 to 10 in the taxonomy's order (R600). -/
def Err.code : Err → BitVec 4
  | .socksVersionNoSupport _ => 1
  | .addressTypeNotSupported _ => 2
  | .invalidDomainEncoding => 3
  | .noSupportAuth => 4
  | .commandUnSupport _ => 5
  | .invalidReply => 6
  | .repliedError => 7
  | .protocolIncorrect => 8
  | .invalidData => 9
  | .ioError _ => 10

/-- The 8-bit payload of kinds 1, 2 and 5 (R600, R620). -/
def Err.arg? : Err → Option Byte
  | .socksVersionNoSupport v => some v
  | .addressTypeNotSupported c => some c
  | .commandUnSupport c => some c
  | .invalidDomainEncoding | .noSupportAuth | .invalidReply | .repliedError => none
  | .protocolIncorrect | .invalidData | .ioError _ => none

/-- The cause of an `IOError` (R602, R620). -/
def Err.cause? : Err → Option IoCause
  | .ioError c => some c
  | .socksVersionNoSupport _ | .addressTypeNotSupported _ | .commandUnSupport _ => none
  | .invalidDomainEncoding | .noSupportAuth | .invalidReply | .repliedError => none
  | .protocolIncorrect | .invalidData => none

end Sys2Proof.Machine
end

