-- ==== Sys2Proof/Machine/Operands.lean ====
section
/-! DEFINITION. The big-endian readers (R400, R401), operand assembly (R302), the wire lengths (R510, R511) and the reads of the
group buffer. -/

namespace Sys2Proof.Machine

/-- `be16(b0, b1) = {b0, b1}`: `b0` becomes bits 15 to 8 (R400). -/
def be16 (b0 b1 : Byte) : BitVec 16 := b0 ++ b1

/-- `be32(b0, b1, b2, b3) = {b0, b1, b2, b3}`: `b0` becomes bits 31 to 24 (R401). -/
def be32 (b0 b1 b2 b3 : Byte) : BitVec 32 := b0 ++ b1 ++ b2 ++ b3

/-- RD16's operand: the buffer `[OPB0, OPB1]` in wire order (R302, R410). -/
def State.operand16 (s : State) : BitVec 16 := be16 s.opb0 s.opb1

/-- RD32's operand: the buffer `[OPB0, OPB1, OPB2, OPB3]` in wire order (R302, R411). -/
def State.operand32 (s : State) : BitVec 32 := be32 s.opb0 s.opb1 s.opb2 s.opb3

/-- ALEN's and RLEN's address-type tag operand (R302). -/
def State.operandAtyp (s : State) : Byte := s.opb0

/-- ALEN's and RLEN's name length operand, `zext_16(OPN)` (R302). -/
def State.operandNlen (s : State) : BitVec 16 := s.opn.zeroExtend 16

/-- `alen(atyp, nlen)`, the wire length of an address; not defined for another tag (R510). -/
def alen (atyp : Byte) (nlen : Nat) : Option Nat :=
  if atyp = 0x01 then some 7
  else if atyp = 0x04 then some 19
  else if atyp = 0x03 then some (4 + nlen)
  else none

/-- `rlen(atyp, nlen) = alen(atyp, nlen) + 3`, the wire length of a response header (R511). -/
def rlen (atyp : Byte) (nlen : Nat) : Option Nat := (alen atyp nlen).map (· + 3)

/-- Byte `i` of the group buffer. Every rule reads below `gcnt`, so the value at an index past the buffer is never used (R107). -/
def State.gbyte (s : State) (i : Nat) : Byte := (s.gbuf[i]?).getD 0

/-- `dst[0..k-1] <- gbuf[0..k-1]`, the other bytes of `dst` unchanged (R424, R425, R428, R453). -/
def copyGroup {m : Nat} (s : State) (k : Nat) (dst : Vector Byte m) : Vector Byte m :=
  Vector.ofFn fun i => if i.val < k then s.gbyte i.val else dst[i.val]

end Sys2Proof.Machine
end

