-- ==== Sys2Proof/Machine/Ops.lean ====
section
/-! DEFINITION. The named operations every rule is written with: ending an operation (raise, finish, refuse), returning to IDLE
(release), accepting a command, opening a read group and taking a byte of it (R152, R211, R320, R330, R620 to R623). -/

namespace Sys2Proof.Machine

/-- What a meaning answers. -/
abbrev Out := Host.Outcome State Fault Refusal

/-- `raise K(arg)`: the operation ends with an error of the taxonomy (R620). -/
def raise (k : Err) (s : State) : State :=
  { s with
    resStatus := .err
    rErr := k.code
    rErrArg := k.arg?.getD s.rErrArg
    rIoCause := (k.cause?.map IoCause.code).getD s.rIoCause
    rIoErr := (k.cause?.bind IoCause.native?).getD s.rIoErr
    resConsumed := s.consumed
    rdReq := false
    shutReq := false
    fsm := .none
    phase := .done }

/-- `finish(kind)`: the operation ends with a value (R621). -/
def finish (kind : Kind) (s : State) : State :=
  { s with
    resStatus := .ok
    resKind := kind
    resConsumed := s.consumed
    rdReq := false
    shutReq := false
    fsm := .none
    phase := .done }

/-- `refuse(reason)`: the command is refused; no other result register is written (R330). -/
def refuse (reason : RefuseReason) (s : State) : State :=
  { s with
    resStatus := .refused
    rRefuse := reason.code
    phase := .done
    fsm := .none
    rdReq := false
    shutReq := false }

/-- The writes ACK and ABORT share: back to IDLE, the operation's registers at their reset values, `shut_wr` and the other
result registers unchanged (R622, R623). -/
def release (s : State) : State :=
  { s with
    phase := .idle
    resStatus := .none
    resKind := .none
    op := 0
    allowDomain := false
    fsm := .none
    need := 0
    gcnt := 0
    consumed := 0 }

/-- A `CMD` event latches the word and the operands (R101, R320). -/
def latch (w b0 b1 b2 b3 : Byte) (n : BitVec 10) (s : State) : State :=
  { s with cmd := w, opb0 := b0, opb1 := b1, opb2 := b2, opb3 := b3, opn := n }

/-- A command of the table is accepted: `op <- w[3:0]; consumed <- 0` (R320). -/
def accept (op : BitVec 4) (s : State) : State := { s with op := op, consumed := 0 }

/-- `Enter(f, n)` for a group of at least one byte: the block asks the stream for its first byte (R152). -/
def enter (f : Fsm) (n : BitVec 9) (s : State) : State :=
  { s with fsm := f, need := n, gcnt := 0, rdReq := true }

/-- `Enter(f, 0)` up to its completion (R152). -/
def enterEmpty (f : Fsm) (s : State) : State := { s with fsm := f, need := 0, gcnt := 0, rdReq := false }

/-- `Enter(f, n)` in full: an empty group completes in the same step, by the completion rule `complete` of `f` (R152). -/
def enterOrComplete (f : Fsm) (n : BitVec 9) (complete : State → State) (s : State) : State :=
  if n = 0 then complete (enterEmpty f s) else enter f n s

/-- The register writes of one accepted `BYTE` event; the stream moves on by one byte (R211, R227). -/
def takeByte (b : Byte) (s : State) : State :=
  { s with
    gbuf := s.gbuf.setIfInBounds s.gcnt.toNat b
    gcnt := s.gcnt + 1
    need := s.need - 1
    consumed := s.consumed + 1
    streamPos := s.streamPos + 1 }

/-- `rd_req <- 0`: the group is complete, or the stream has ended or failed (R211, R212, R213). -/
def closeGroup (s : State) : State := { s with rdReq := false }

/-- The same block with other events to come. -/
def withHost (events : List Event) (s : State) : State := { s with host := events }

/-- A command runs only in IDLE (R150); elsewhere it has no step. -/
def whenIdle (s t : State) : Out := if s.phase = .idle then .next t else .fault .notEnabled

/-- A wire-dispatch row runs when the group of `f` is complete and its byte `i` is the row's value `b` (R151). -/
def whenDispatched (f : Fsm) (i : Nat) (b : Byte) (s t : State) : Out :=
  if s.fsm = f ∧ s.need = 0 ∧ s.gbyte i = b then .next t else .fault .notAtDispatch

end Sys2Proof.Machine
end

