-- ==== Sys2Proof/Machine/Length.lean ====
section
/-! DEFINITION. The wire-length operations: ALEN, RLEN (44_wire_length). -/

namespace Sys2Proof.Machine

/-- End a length operation: the result, or BAD_OPERAND where no address has the tag (R512, R513). -/
def finishLength (len : Option Nat) (s : State) : State :=
  match len with
  | some k => finish .length { s with rLen := BitVec.ofNat 11 k }
  | none => refuse .badOperand s

/-- ALEN (R512). -/
def execAlen (s : State) : Out :=
  whenIdle s (finishLength (alen s.operandAtyp s.operandNlen.toNat) (accept 0x7 s))

/-- RLEN (R513). -/
def execRlen (s : State) : Out :=
  whenIdle s (finishLength (rlen s.operandAtyp s.operandNlen.toNat) (accept 0x8 s))

end Sys2Proof.Machine
end

