-- ==== Sys2Proof/Machine/Reader.lean ====
section
/-! DEFINITION. The big-endian field reader's operations: RD16, RD32 (40_byte_order). -/

namespace Sys2Proof.Machine

/-- RD16 (R410). -/
def execRd16 (s : State) : Out :=
  whenIdle s (finish .u16 { accept 0x5 s with rU16 := s.operand16 })

/-- RD32 (R411). -/
def execRd32 (s : State) : Out :=
  whenIdle s (finish .u32 { accept 0x6 s with rU32 := s.operand32 })

end Sys2Proof.Machine
end

