-- ==== Sys2Proof/Machine/Reserved.lean ====
section
/-! DEFINITION. The reserved command words: each is refused with RESERVED_OP and takes no byte (R320, R330). -/

namespace Sys2Proof.Machine

/-- Word 0x00 (R330). -/
def execReserved00 (s : State) : Out := whenIdle s (refuse .reservedOp s)

/-- Word 0x09 (R330). -/
def execReserved09 (s : State) : Out := whenIdle s (refuse .reservedOp s)

/-- Words 0x0A and 0x0B (R330). -/
def execReserved0A (s : State) : Out := whenIdle s (refuse .reservedOp s)

/-- Words 0x0C to 0x0F (R330). -/
def execReserved0C (s : State) : Out := whenIdle s (refuse .reservedOp s)

/-- Words 0x10 to 0x1F (R330). -/
def execReserved10 (s : State) : Out := whenIdle s (refuse .reservedOp s)

/-- Words 0x20 to 0x3F (R330). -/
def execReserved20 (s : State) : Out := whenIdle s (refuse .reservedOp s)

/-- Words 0x40 to 0x7F (R330). -/
def execReserved40 (s : State) : Out := whenIdle s (refuse .reservedOp s)

/-- Words 0x80 to 0xFF (R330). -/
def execReserved80 (s : State) : Out := whenIdle s (refuse .reservedOp s)

end Sys2Proof.Machine
end

