-- ==== Sys2Proof/Machine/StreamCommands.lean ====
section
/-! DEFINITION. The starts of the four stream operations, in the `CMD` step: HS, ADDR, SADDR, REQ (R320, R420, R421, R450, R480). -/

namespace Sys2Proof.Machine

/-- `phase <- BUSY` and the operation's first group (R320). -/
def startGroup (f : Fsm) (n : BitVec 9) (s : State) : State := enter f n { s with phase := .busy }

/-- HS (R450). -/
def execHs (s : State) : Out := whenIdle s (startGroup .hsHdr 2 (accept 0x1 s))

/-- ADDR: the domain form is allowed (R420). -/
def execAddr (s : State) : Out := whenIdle s (startGroup .adTag 1 { accept 0x2 s with allowDomain := true })

/-- SADDR: the domain form is not allowed (R421). -/
def execSaddr (s : State) : Out := whenIdle s (startGroup .adTag 1 { accept 0x3 s with allowDomain := false })

/-- REQ: the header first, then the general address decoder (R480). -/
def execReq (s : State) : Out := whenIdle s (startGroup .rqHdr 3 { accept 0x4 s with allowDomain := true })

end Sys2Proof.Machine
end

