-- ==== Sys2Proof/Machine/Groups.lean ====
section
/-! DEFINITION. The completion rules that dispatch on no wire byte: the bodies of the handshake and of the addresses
(R423 to R428, R453), and the outcomes of a dispatch byte that is none of the table's (R422, R451, R482). -/

namespace Sys2Proof.Machine

/-- `AddrDone()`: the kind of result depends on the operation (R423). -/
def addrDone (s : State) : State := if s.op = 0x4 then finish .request s else finish .address s

/-- Completion of `HS_METH` (R453). -/
def completeHsMeth (s : State) : State :=
  finish .handshake { s with rMethods := copyGroup s s.rNmeth.toNat s.rMethods }

/-- Completion of `AD_V4` (R424). -/
def completeAdV4 (s : State) : State :=
  addrDone { s with rIp4 := copyGroup s 4 s.rIp4, rPort := be16 (s.gbyte 4) (s.gbyte 5) }

/-- Completion of `AD_V6A` (R425). -/
def completeAdV6A (s : State) : State := enter .adV6P 2 { s with rIp6 := copyGroup s 16 s.rIp6 }

/-- Completion of `AD_V6P` (R425). -/
def completeAdV6P (s : State) : State :=
  addrDone { s with rPort := be16 (s.gbyte 0) (s.gbyte 1), rFlow := 0, rScope := 0 }

/-- Completion of `AD_DLEN`: the length prefix fixes the body's size (R427). -/
def completeAdDlen (s : State) : State :=
  enter .adDbody ((s.gbyte 0).zeroExtend 9 + 2) { s with rDlen := s.gbyte 0 }

/-- Completion of `AD_DBODY` (R428). -/
def completeAdDbody (s : State) : State :=
  addrDone { s with
    rName := copyGroup s s.rDlen.toNat s.rName
    rPort := be16 (s.gbyte s.rDlen.toNat) (s.gbyte (s.rDlen.toNat + 1)) }

/-- `R_VER <- ver ; R_NMETH <- n`, the first writes of R451. -/
def recordHsHeader (s : State) : State := { s with rVer := s.gbyte 0, rNmeth := s.gbyte 1 }

/-- `HS_HDR` with another version than the supported one: ask the host to close the write side (R451). -/
def hsVersionMismatch (s : State) : State := { recordHsHeader s with fsm := .hsShut, shutReq := true }

/-- `RQ_HDR` with another version: the error, and no shutdown (R482, R485). -/
def reqVersionMismatch (s : State) : State := raise (.socksVersionNoSupport (s.gbyte 0)) s

/-- `RQ_HDR` with a command byte that is none of the three (R482). -/
def reqCommandUnknown (s : State) : State := raise (.commandUnSupport (s.gbyte 1)) s

/-- `R_ATYP <- t`, the first write of R422. -/
def recordTag (t : Byte) (s : State) : State := { s with rAtyp := t }

/-- `AD_TAG` with a tag that is none of the three (R422). -/
def adTagUnknown (s : State) : State := raise (.addressTypeNotSupported (s.gbyte 0)) (recordTag (s.gbyte 0) s)

end Sys2Proof.Machine
end

