-- ==== Sys2Proof/Machine/Wire.lean ====
section
/-! DEFINITION. The wire dispatch rows: what the block does in the step that completes a header or tag group when the dispatched
byte has the row's value (R422, R429, R451, R482, R483). They run inside a completion (Machine/Complete.lean). -/

namespace Sys2Proof.Machine

/-- HS.VER: the supported version, so the method group opens; it completes at once when `N = 0` (R451, R152). -/
def execHsVer (s : State) : Out :=
  whenDispatched .hsHdr 0 Config.supportedVer s
    (enterOrComplete .hsMeth ((s.gbyte 1).zeroExtend 9) completeHsMeth (recordHsHeader s))

/-- `R_VER <- ver ; R_CMD <- cmd ; R_RSV <- rsv ; Enter(AD_TAG, 1)`, the last lines of R482; RSV is not checked (R486). -/
def recordReqHeader (s : State) : State :=
  enter .adTag 1 { s with rVer := s.gbyte 0, rCmd := s.gbyte 1, rRsv := s.gbyte 2 }

/-- A request's command byte is dispatched only after its version has passed (R482, R485). -/
def whenCommand (c : Byte) (s t : State) : Out :=
  if s.gbyte 0 = Config.supportedVer then whenDispatched .rqHdr 1 c s t else .fault .notAtDispatch

/-- REQ.CMD.CONNECT: recognized; classified, not executed (R482, R483). -/
def execReqCmdConnect (s : State) : Out := whenCommand 0x01 s (recordReqHeader s)

/-- REQ.CMD.BIND (R482, R483). -/
def execReqCmdBind (s : State) : Out := whenCommand 0x02 s (recordReqHeader s)

/-- REQ.CMD.UDP_ASSOCIATE (R482, R483). -/
def execReqCmdUdpAssociate (s : State) : Out := whenCommand 0x03 s (recordReqHeader s)

/-- The command check of R482: one of the three command rows, or `CommandUnSupport{cmd}`. -/
def dispatchCommand (s : State) : Out :=
  if s.gbyte 1 = 0x01 then execReqCmdConnect s
  else if s.gbyte 1 = 0x02 then execReqCmdBind s
  else if s.gbyte 1 = 0x03 then execReqCmdUdpAssociate s
  else .next (reqCommandUnknown s)

/-- REQ.VER: the supported version, so the command byte is checked next (R482, R485). -/
def execReqVer (s : State) : Out :=
  if s.fsm = .rqHdr ∧ s.need = 0 ∧ s.gbyte 0 = Config.supportedVer then dispatchCommand s else .fault .notAtDispatch

/-- ATYP.IPV4: the six-byte body opens (R422, R424). -/
def execAtypIpv4 (s : State) : Out :=
  whenDispatched .adTag 0 0x01 s (enter .adV4 6 (recordTag 0x01 s))

/-- ATYP.DOMAIN: the length byte is read where the domain form is allowed, else the tag is rejected (R422, R429). -/
def execAtypDomain (s : State) : Out :=
  whenDispatched .adTag 0 0x03 s
    (if s.allowDomain then enter .adDlen 1 (recordTag 0x03 s)
      else raise (.addressTypeNotSupported 0x03) (recordTag 0x03 s))

/-- ATYP.IPV6: the sixteen address bytes open (R422, R425). -/
def execAtypIpv6 (s : State) : Out :=
  whenDispatched .adTag 0 0x04 s (enter .adV6A 16 (recordTag 0x04 s))

end Sys2Proof.Machine
end

