-- ==== Sys2Proof/Machine/Dispatch.lean ====
section
/-! DEFINITION. exec: one arm per constructor of Instr, each a direct call of its meaning. -/

namespace Sys2Proof.Machine

def exec (i : Instr) (s : State) : Host.Outcome State Fault Refusal :=
  match i with
  | .hs => Sys2Proof.Machine.execHs s
  | .addr => Sys2Proof.Machine.execAddr s
  | .saddr => Sys2Proof.Machine.execSaddr s
  | .req => Sys2Proof.Machine.execReq s
  | .rd16 => Sys2Proof.Machine.execRd16 s
  | .rd32 => Sys2Proof.Machine.execRd32 s
  | .alen => Sys2Proof.Machine.execAlen s
  | .rlen => Sys2Proof.Machine.execRlen s
  | .reserved00 => Sys2Proof.Machine.execReserved00 s
  | .reserved09 => Sys2Proof.Machine.execReserved09 s
  | .reserved0A _ => Sys2Proof.Machine.execReserved0A s
  | .reserved0C _ => Sys2Proof.Machine.execReserved0C s
  | .reserved10 _ => Sys2Proof.Machine.execReserved10 s
  | .reserved20 _ => Sys2Proof.Machine.execReserved20 s
  | .reserved40 _ => Sys2Proof.Machine.execReserved40 s
  | .reserved80 _ => Sys2Proof.Machine.execReserved80 s
  | .hsVer => Sys2Proof.Machine.execHsVer s
  | .reqVer => Sys2Proof.Machine.execReqVer s
  | .reqCmdConnect => Sys2Proof.Machine.execReqCmdConnect s
  | .reqCmdBind => Sys2Proof.Machine.execReqCmdBind s
  | .reqCmdUdpAssociate => Sys2Proof.Machine.execReqCmdUdpAssociate s
  | .atypIpv4 => Sys2Proof.Machine.execAtypIpv4 s
  | .atypDomain => Sys2Proof.Machine.execAtypDomain s
  | .atypIpv6 => Sys2Proof.Machine.execAtypIpv6 s

end Sys2Proof.Machine
end

