-- ==== Sys2Proof/Machine/Complete.lean ====
section
/-! DEFINITION. `Complete(fsm)`: the completion rule of each decoder state (R151). The three dispatching states decode their byte
and run the table row it stands for; a byte that is no row of the table takes the rule's other branch. -/

namespace Sys2Proof.Machine

/-- `Complete(fsm)` (R151, R152): run in the step of the byte that completes the group (R211). -/
def complete (s : State) : Out :=
  match s.fsm with
  | .hsHdr =>
    match decodeAt .hsVer (s.gbyte 0) with
    | .ok i => exec i s
    | .error _ => .next (hsVersionMismatch s)
  | .rqHdr =>
    match decodeAt .reqVer (s.gbyte 0) with
    | .ok i => exec i s
    | .error _ => .next (reqVersionMismatch s)
  | .adTag =>
    match decodeAt .atyp (s.gbyte 0) with
    | .ok i => exec i s
    | .error _ => .next (adTagUnknown s)
  | .hsMeth => .next (completeHsMeth s)
  | .adV4 => .next (completeAdV4 s)
  | .adV6A => .next (completeAdV6A s)
  | .adV6P => .next (completeAdV6P s)
  | .adDlen => .next (completeAdDlen s)
  | .adDbody => .next (completeAdDbody s)
  | .none => .fault .noCompletionRule
  | .hsShut => .fault .noCompletionRule

end Sys2Proof.Machine
end

