-- ==== Sys2Proof/Machine/Flags.lean ====
section
/-! DEFINITION. The read-only flag views (R105) and when each host event is enabled (R150). -/

namespace Sys2Proof.Machine

/-- `busy`: the view `phase = BUSY` (R105). -/
def State.busy (s : State) : Bool := s.phase == .busy

/-- `res_valid`: the view `phase = DONE` (R105). -/
def State.resValid (s : State) : Bool := s.phase == .done

/-- The `enabled iff` column of R150's event table. -/
def enabled (e : Event) (s : State) : Bool :=
  match e with
  | .cmd _ _ _ _ _ _ => s.phase == .idle
  | .byte _ => s.rdReq
  | .eof => s.rdReq
  | .rdErr _ => s.rdReq
  | .shutOk => s.shutReq
  | .shutErr _ => s.shutReq
  | .ack => s.phase == .done
  | .abort => s.phase == .busy || s.phase == .done
  | .reset => true

end Sys2Proof.Machine
end

