-- ==== Sys2Proof/Machine/Events.lean ====
section
/-! DEFINITION. What each host event does (R150): one definition per event, and `onEvent`, which gives an event that is not
enabled no step. -/

namespace Sys2Proof.Machine

/-- `CMD`: latch the word and the operands, decode the word, run the operation (R320). -/
def onCmd (w b0 b1 b2 b3 : Byte) (n : BitVec 10) (s : State) : Out :=
  exec (decodeCmd w) (latch w b0 b1 b2 b3 n s)

/-- `BYTE b` (R211). -/
def onByte (b : Byte) (s : State) : Out :=
  if (takeByte b s).need = 0 then complete (closeGroup (takeByte b s)) else .next (takeByte b s)

/-- `EOF` (R212). -/
def onEof (s : State) : State := raise (.ioError .eof) (closeGroup s)

/-- `RDERR e` (R213). -/
def onRdErr (e : TErr) (s : State) : State := raise (.ioError (.read e)) (closeGroup s)

/-- `SHUT_OK`: the write side is closed, and the version error is reported (R452). -/
def onShutOk (s : State) : State :=
  raise (.socksVersionNoSupport s.rVer) { s with shutReq := false, shutWr := true }

/-- `SHUT_ERR e`: the shutdown's own error is reported, `shut_wr` unchanged (R452). -/
def onShutErr (e : TErr) (s : State) : State := raise (.ioError (.shutdown e)) { s with shutReq := false }

/-- `ACK`, the return (R622). -/
def onAck (s : State) : State := release s

/-- `ABORT`, cancellation (R623). -/
def onAbort (s : State) : State := { release s with rdReq := false, shutReq := false }

/-- `RESET`: the values of R160; `gbuf` and the other result registers are not written (R700, U3; DEDUCED, log 6). It stands for a
new stream, whose position is 0. -/
def onReset (s : State) : State :=
  { s with
    phase := .idle
    resStatus := .none
    resKind := .none
    op := 0
    allowDomain := false
    fsm := .none
    need := 0
    gcnt := 0
    consumed := 0
    rdReq := false
    shutReq := false
    shutWr := false
    streamPos := 0 }

/-- One enabled event, handled (R150). -/
def handle (e : Event) (s : State) : Out :=
  match e with
  | .cmd w b0 b1 b2 b3 n => onCmd w b0 b1 b2 b3 n s
  | .byte b => onByte b s
  | .eof => .next (onEof s)
  | .rdErr e => .next (onRdErr e s)
  | .shutOk => .next (onShutOk s)
  | .shutErr e => .next (onShutErr e s)
  | .ack => .next (onAck s)
  | .abort => .next (onAbort s)
  | .reset => .next (onReset s)

/-- The spec's `step : State -> Event`: an event that is not enabled has no step (R150). -/
def onEvent (e : Event) (s : State) : Out := if enabled e s then handle e s else .fault .notEnabled

/-- The event the host presents next, and the state without it; none where the host presents nothing. -/
def nextEvent (s : State) : Option (Event × State) :=
  match s.host with
  | [] => none
  | e :: rest => some (e, withHost rest s)

/-- The host presents the command word `w` next, all operands 0, to an idle block. -/
def presentWord (w : Byte) (s : State) : State :=
  { s with phase := .idle, host := .cmd w 0 0 0 0 0 :: s.host }

end Sys2Proof.Machine
end

