-- ==== Sys2Proof/Machine/Step.lean ====
section
/-! DEFINITION. One step: the handling of exactly one host event (R150). -/

namespace Sys2Proof.Machine

/-- The block handles the next event the host presents; it never steps without one (R150, U8). -/
def step (s : State) : Host.Outcome State Fault Refusal :=
  match nextEvent s with
  | none => .fault .noEvent
  | some (e, t) => onEvent e t

/-- `s` with the table word `w` as the host's next command, its operands 0, so that the very next step runs it (log 12). A width
that is no command word's places nothing. -/
def State.withFetchWord (s : State) (nbits w : Nat) : State :=
  if nbits = 8 then presentWord (BitVec.ofNat 8 w) s else s

end Sys2Proof.Machine
end

