-- ==== Sys2Proof/Machine/Utf8.lean ====
section
/-! DEFINITION. Lossy UTF-8 decoding of a name (41_address R432). The algorithm and the table are general knowledge by the spec's
own mark (G1, G2; log 15): a value-level view, which no register of the block depends on. A scalar value is a natural number. -/

namespace Sys2Proof.Machine

/-- U+FFFD, what an ill-formed sequence becomes (R432). -/
def replacementScalar : Nat := 0xFFFD

/-- The table of well-formed sequences: per row, the inclusive range of each byte (R432). -/
def utf8Rows : List (List (Byte × Byte)) :=
  [ [(0x00, 0x7F)],
    [(0xC2, 0xDF), (0x80, 0xBF)],
    [(0xE0, 0xE0), (0xA0, 0xBF), (0x80, 0xBF)],
    [(0xE1, 0xEC), (0x80, 0xBF), (0x80, 0xBF)],
    [(0xED, 0xED), (0x80, 0x9F), (0x80, 0xBF)],
    [(0xEE, 0xEF), (0x80, 0xBF), (0x80, 0xBF)],
    [(0xF0, 0xF0), (0x90, 0xBF), (0x80, 0xBF), (0x80, 0xBF)],
    [(0xF1, 0xF3), (0x80, 0xBF), (0x80, 0xBF), (0x80, 0xBF)],
    [(0xF4, 0xF4), (0x80, 0x8F), (0x80, 0xBF), (0x80, 0xBF)] ]

/-- How many leading bytes of `bs` fit a row of the table. -/
def rowFit : List (Byte × Byte) → List Byte → Nat
  | (lo, hi) :: row, b :: bs => if lo ≤ b ∧ b ≤ hi then 1 + rowFit row bs else 0
  | _, _ => 0

/-- `k` of R432: the longest start of `bs` that begins some well-formed sequence, 0 if `bs` starts none. -/
def longestFit (bs : List Byte) : Nat := (utf8Rows.map (rowFit · bs)).foldl max 0

/-- The first `k` bytes of `bs` are a complete well-formed sequence (R432). -/
def completeFit (k : Nat) (bs : List Byte) : Bool := utf8Rows.any fun row => row.length == k && rowFit row bs == k

/-- The scalar value that a well-formed sequence encodes (R432, its scalar range column). -/
def scalarOf : List Byte → Nat
  | [a] => a.toNat
  | [a, b] => a.toNat % 32 * 64 + b.toNat % 64
  | [a, b, c] => a.toNat % 16 * 4096 + b.toNat % 64 * 64 + c.toNat % 64
  | [a, b, c, d] => a.toNat % 8 * 262144 + b.toNat % 64 * 4096 + c.toNat % 64 * 64 + d.toNat % 64
  | _ => replacementScalar

/-- R432's loop, one turn per unit of fuel; each turn takes at least one byte. -/
def lossyLoop : Nat → List Byte → List Nat
  | 0, _ => []
  | _ + 1, [] => []
  | fuel + 1, b :: bs =>
    let k := longestFit (b :: bs)
    if 1 ≤ k ∧ completeFit k (b :: bs) then
      scalarOf ((b :: bs).take k) :: lossyLoop fuel ((b :: bs).drop k)
    else
      replacementScalar :: lossyLoop fuel ((b :: bs).drop (max k 1))

/-- `lossy_utf8(bs)`: the scalar values of `bs`, each ill-formed part replaced by U+FFFD; it never fails (R432). -/
def lossyUtf8 (bs : List Byte) : List Nat := lossyLoop bs.length bs

/-- The encoded length of one scalar value, 1 to 4 bytes (R432). -/
def scalarLen (c : Nat) : Nat := if c < 0x80 then 1 else if c < 0x800 then 2 else if c < 0x10000 then 3 else 4

/-- The UTF-8 byte length of a string of scalar values (R432). -/
def utf8Len (cs : List Nat) : Nat := (cs.map scalarLen).sum

/-- `lossy_len(bs)` (R432). -/
def lossyLen (bs : List Byte) : Nat := utf8Len (lossyUtf8 bs)

/-- A Unicode scalar value: the union of the table's scalar ranges (R432). -/
def isScalar (c : Nat) : Bool := c < 0xD800 || (0xE000 ≤ c && c < 0x110000)

/-- The well-formed sequence of a scalar value, read off the table's rows (R432). -/
def encodeScalar (c : Nat) : List Byte :=
  if c < 0x80 then [BitVec.ofNat 8 c]
  else if c < 0x800 then [BitVec.ofNat 8 (0xC0 + c / 64), BitVec.ofNat 8 (0x80 + c % 64)]
  else if c < 0x10000 then
    [BitVec.ofNat 8 (0xE0 + c / 4096), BitVec.ofNat 8 (0x80 + c / 64 % 64), BitVec.ofNat 8 (0x80 + c % 64)]
  else
    [BitVec.ofNat 8 (0xF0 + c / 262144), BitVec.ofNat 8 (0x80 + c / 4096 % 64), BitVec.ofNat 8 (0x80 + c / 64 % 64),
      BitVec.ofNat 8 (0x80 + c % 64)]

end Sys2Proof.Machine
end

