-- ==== Sys2Proof/Machine/Values.lean ====
section
/-! DEFINITION. What the host reads: the result registers with their validity (R110, R111), the views over them (R113), and the
typed values they stand for (R430, R484, R514). A read outside its validity answers a fault. -/

namespace Sys2Proof.Machine

/-- The result registers of R110's table, arrays by index. -/
inductive ResReg where
  | resStatus | resKind | resConsumed
  | rVer | rNmeth | rMethods (i : Nat) | rCmd | rRsv
  | rAtyp | rIp4 (i : Nat) | rIp6 (i : Nat) | rFlow | rScope | rDlen | rName (i : Nat) | rPort
  | rU16 | rU32 | rLen
  | rErr | rErrArg | rIoCause | rIoErr | rRefuse
  deriving DecidableEq, Repr

/-- What a result register holds: bits read as a number, or the transport's native error. -/
inductive RegValue where
  | bits (v : Nat)
  | native (e : TErr)
  deriving DecidableEq, Repr

/-- A result of this status stands in the registers; they are invalid while `phase` is not DONE (R110, R115). -/
def State.hasStatus (s : State) (st : Status) : Bool := s.phase == .done && s.resStatus == st

/-- An OK result of this kind stands in the registers (R110). -/
def State.hasKind (s : State) (k : Kind) : Bool := s.hasStatus .ok && s.resKind == k

/-- The result holds an address: kind ADDRESS or REQUEST (R110). -/
def State.hasAddress (s : State) : Bool := s.hasKind .address || s.hasKind .request

/-- The result holds an address with this tag (R110, R621). -/
def State.hasAtyp (s : State) (t : Byte) : Bool := s.hasAddress && s.rAtyp == t

/-- The `valid when` column of R110's table (log 8). -/
def ResReg.valid (r : ResReg) (s : State) : Bool :=
  match r with
  | .resStatus => true
  | .resKind => s.hasStatus .ok
  | .resConsumed => s.hasStatus .ok || s.hasStatus .err
  | .rVer => s.hasKind .handshake || s.hasKind .request
  | .rNmeth => s.hasKind .handshake
  | .rMethods i => s.hasKind .handshake && i < s.rNmeth.toNat
  | .rCmd => s.hasKind .request
  | .rRsv => s.hasKind .request
  | .rAtyp => s.hasAddress
  | .rIp4 i => s.hasAtyp 0x01 && i < 4
  | .rIp6 i => s.hasAtyp 0x04 && i < 16
  | .rFlow => s.hasAtyp 0x04
  | .rScope => s.hasAtyp 0x04
  | .rDlen => s.hasAtyp 0x03
  | .rName i => s.hasAtyp 0x03 && i < s.rDlen.toNat
  | .rPort => s.hasAddress
  | .rU16 => s.hasKind .u16
  | .rU32 => s.hasKind .u32
  | .rLen => s.hasKind .length
  | .rErr => s.hasStatus .err
  | .rErrArg => s.hasStatus .err && (s.rErr == 1 || s.rErr == 2 || s.rErr == 5)
  | .rIoCause => s.hasStatus .err && s.rErr == 10
  | .rIoErr => s.hasStatus .err && s.rErr == 10 && (s.rIoCause == 2 || s.rIoCause == 3)
  | .rRefuse => s.hasStatus .refused

/-- Byte `i` of a result array. A valid read is below the array's length. -/
def arrayByte {m : Nat} (v : Vector Byte m) (i : Nat) : Byte := (v[i]?).getD 0

/-- The register's contents, whether valid or not. -/
def ResReg.contents (r : ResReg) (s : State) : RegValue :=
  match r with
  | .resStatus => .bits s.resStatus.code.toNat
  | .resKind => .bits s.resKind.code.toNat
  | .resConsumed => .bits s.resConsumed.toNat
  | .rVer => .bits s.rVer.toNat
  | .rNmeth => .bits s.rNmeth.toNat
  | .rMethods i => .bits (arrayByte s.rMethods i).toNat
  | .rCmd => .bits s.rCmd.toNat
  | .rRsv => .bits s.rRsv.toNat
  | .rAtyp => .bits s.rAtyp.toNat
  | .rIp4 i => .bits (arrayByte s.rIp4 i).toNat
  | .rIp6 i => .bits (arrayByte s.rIp6 i).toNat
  | .rFlow => .bits s.rFlow.toNat
  | .rScope => .bits s.rScope.toNat
  | .rDlen => .bits s.rDlen.toNat
  | .rName i => .bits (arrayByte s.rName i).toNat
  | .rPort => .bits s.rPort.toNat
  | .rU16 => .bits s.rU16.toNat
  | .rU32 => .bits s.rU32.toNat
  | .rLen => .bits s.rLen.toNat
  | .rErr => .bits s.rErr.toNat
  | .rErrArg => .bits s.rErrArg.toNat
  | .rIoCause => .bits s.rIoCause.toNat
  | .rIoErr => .native s.rIoErr
  | .rRefuse => .bits s.rRefuse.toNat

/-- The host's read of a result register: a fault outside its validity, never a value (R111). -/
def readRes (r : ResReg) (s : State) : Except Fault RegValue :=
  if r.valid s then .ok (r.contents s) else .error .invalidRead

/-- A view over result registers, valid exactly when its operands are (R113). -/
def viewWhen {α : Type} (ok : Bool) (v : α) : Except Fault α := if ok then .ok v else .error .invalidRead

/-- `R_IP4_U32` (R113, R221). -/
def State.ip4U32 (s : State) : Except Fault (BitVec 32) :=
  viewWhen (s.hasAtyp 0x01)
    (be32 (arrayByte s.rIp4 0) (arrayByte s.rIp4 1) (arrayByte s.rIp4 2) (arrayByte s.rIp4 3))

/-- `R_IP6_SEG[i]`, `i` in 0 to 7 (R113, R221). -/
def State.ip6Seg (s : State) (i : Nat) : Except Fault (BitVec 16) :=
  viewWhen (s.hasAtyp 0x04 && i < 8) (be16 (arrayByte s.rIp6 (2 * i)) (arrayByte s.rIp6 (2 * i + 1)))

/-- `R_NAME[0..R_DLEN-1]` as a list. -/
def State.nameBytes (s : State) : List Byte := s.rName.toList.take s.rDlen.toNat

/-- `R_METHODS[0..R_NMETH-1]` as a list. -/
def State.methodBytes (s : State) : List Byte := s.rMethods.toList.take s.rNmeth.toNat

/-- `R_NAME_STR` (R113, R432). -/
def State.nameStr (s : State) : Except Fault (List Nat) := viewWhen (s.hasAtyp 0x03) (lossyUtf8 s.nameBytes)

/-- The source's `Address`, with the name as scalar values; equality is structural (R430). -/
inductive Address where
  | ip4 (ip : Vector Byte 4) (port : BitVec 16)
  | ip6 (ip : Vector Byte 16) (flow scope : BitVec 32) (port : BitVec 16)
  | domain (name : List Nat) (port : BitVec 16)
  deriving DecidableEq, Repr

/-- An address as it came off the wire, with the raw name bytes (R430). -/
inductive WireAddress where
  | ip4 (ip : Vector Byte 4) (port : BitVec 16)
  | ip6 (ip : Vector Byte 16) (port : BitVec 16)
  | domain (name : List Byte) (port : BitVec 16)
  deriving DecidableEq, Repr

/-- The `Address` a wire address stands for: zero flow and scope, the lossy name (R425, R430). -/
def WireAddress.value : WireAddress → Address
  | .ip4 ip port => .ip4 ip port
  | .ip6 ip port => .ip6 ip 0 0 port
  | .domain name port => .domain (lossyUtf8 name) port

/-- The raw address an OK result holds (R430). -/
def State.wireAddress (s : State) : Except Fault WireAddress :=
  if s.hasAtyp 0x01 then .ok (.ip4 s.rIp4 s.rPort)
  else if s.hasAtyp 0x04 then .ok (.ip6 s.rIp6 s.rPort)
  else if s.hasAtyp 0x03 then .ok (.domain s.nameBytes s.rPort)
  else .error .invalidRead

/-- The `Address` an OK result stands for (R430). -/
def State.address (s : State) : Except Fault Address :=
  if s.hasAtyp 0x01 then .ok (.ip4 s.rIp4 s.rPort)
  else if s.hasAtyp 0x04 then .ok (.ip6 s.rIp6 s.rFlow s.rScope s.rPort)
  else if s.hasAtyp 0x03 then .ok (.domain (lossyUtf8 s.nameBytes) s.rPort)
  else .error .invalidRead

/-- `address.len()` of a decoded value: `alen` of its tag and its name's byte length (R514). -/
def Address.len : Address → Nat
  | .ip4 _ _ => 7
  | .ip6 _ _ _ _ => 19
  | .domain name _ => 4 + utf8Len name

/-- The three commands (R483). -/
inductive Command where
  | connect | bind | udpAssociate
  deriving DecidableEq, Repr

/-- The command a byte names; the values are general knowledge (R483, G3). -/
def commandOf (b : Byte) : Option Command :=
  if b = 0x01 then some .connect
  else if b = 0x02 then some .bind
  else if b = 0x03 then some .udpAssociate
  else none

/-- The source's `TcpRequestHeader`, with the reserved byte as received (R484). -/
structure RequestHeader where
  command : Command
  rsv : Byte
  address : Address
  deriving DecidableEq, Repr

/-- The request header an OK result of kind REQUEST stands for (R484). -/
def State.requestHeader (s : State) : Except Fault RequestHeader :=
  if s.hasKind .request then
    match commandOf s.rCmd, s.address with
    | some c, .ok a => .ok { command := c, rsv := s.rRsv, address := a }
    | _, _ => .error .invalidRead
  else .error .invalidRead

/-- The method list an OK result of kind HANDSHAKE stands for (R453, R455). -/
def State.methods (s : State) : Except Fault (List Byte) := viewWhen (s.hasKind .handshake) s.methodBytes

/-- What the host sees of the flags (R105, R114). -/
structure FlagView where
  busy : Bool
  resValid : Bool
  rdReq : Bool
  shutReq : Bool
  shutWr : Bool
  deriving DecidableEq, Repr

/-- The flag outputs (R105). -/
def State.flagView (s : State) : FlagView :=
  { busy := s.busy, resValid := s.resValid, rdReq := s.rdReq, shutReq := s.shutReq, shutWr := s.shutWr }

end Sys2Proof.Machine
end

