-- ==== Sys2Proof/Machine/Frames.lean ====
section
/-! DEFINITION. The wire layouts of the frames the block decodes, as byte lists (R310, R311, R312, R220). -/

namespace Sys2Proof.Machine

/-- `PORT`, big-endian: the high byte first (R220, R314). -/
def portBytes (p : BitVec 16) : List Byte := [p.extractLsb' 8 8, p.extractLsb' 0 8]

/-- The layout of an address: the tag, then the body the tag fixes (R311). -/
def addressFrame : WireAddress → List Byte
  | .ip4 ip port => 0x01 :: (ip.toList ++ portBytes port)
  | .ip6 ip port => 0x04 :: (ip.toList ++ portBytes port)
  | .domain name port => 0x03 :: BitVec.ofNat 8 name.length :: (name ++ portBytes port)

/-- A name's length fits its length byte (R311). -/
def WireAddress.encodable : WireAddress → Bool
  | .ip4 _ _ => true
  | .ip6 _ _ => true
  | .domain name _ => name.length ≤ Config.maxDlen

/-- The layout of a handshake request of the supported version (R310). -/
def handshakeFrame (methods : List Byte) : List Byte :=
  Config.supportedVer :: BitVec.ofNat 8 methods.length :: methods

/-- The layout of a TCP request header of the supported version (R312). -/
def requestFrame (cmd rsv : Byte) (a : WireAddress) : List Byte :=
  Config.supportedVer :: cmd :: rsv :: addressFrame a

end Sys2Proof.Machine
end

