-- ==== Sys2Proof/Machine/System.lean ====
section
/-! DEFINITION. Several instances of the block (R640, R641): `n` is NUM_INSTANCES (P2), any number. Instances share no state; the host
interleaves their events in any order. -/

namespace Sys2Proof.Machine

/-- `n` independent copies of the block, one per stream (R640). -/
abbrev System (n : Nat) := Vector State n

/-- Every instance after RESET. -/
def System.reset (n : Nat) : System n := Vector.replicate n State.reset

/-- Instance `k` takes one step; no other instance changes (R640). -/
def System.stepAt {n : Nat} (k : Fin n) (sys : System n) : Host.Outcome (System n) Fault Refusal :=
  match step sys[k] with
  | .next t => .next (sys.set k t)
  | .fault r => .fault r
  | .refused r => .refused r

end Sys2Proof.Machine
end

