-- ==== Sys2Proof/Machine/Sequential.lean ====
section
/-! DEFINITION. The sequential forms of the stream operations (R210, R420, R421, R450, R480), which the spec calls equivalent to
the step-level rules: straight-line programs over `StreamRead` and `Shutdown` (R13, R14), run on the list of the host's answers. -/

namespace Sys2Proof.Machine

/-- The host's answers to `rd_req` and `shut_req` (R201, R452). -/
inductive Answer where
  | byte (b : Byte)
  | eof
  | rdErr (e : TErr)
  | shutOk
  | shutErr (e : TErr)
  deriving DecidableEq, Repr

/-- The event an answer is presented as (R150). -/
def Answer.event : Answer → Event
  | .byte b => .byte b
  | .eof => .eof
  | .rdErr e => .rdErr e
  | .shutOk => .shutOk
  | .shutErr e => .shutErr e

/-- How a sequential program stands after a list of answers. -/
inductive SeqRun (α : Type) where
  /-- A value, the stream bytes taken, and the answers not used. -/
  | done (a : α) (taken : Nat) (rest : List Answer)
  /-- An error ended the operation (R620). -/
  | raised (e : Err) (taken : Nat) (rest : List Answer)
  /-- Suspended: the answers are used up. -/
  | waits (taken : Nat)
  /-- The next answer is none the host may present here (R150). -/
  | noMove
  deriving DecidableEq, Repr

/-- Run one program after another. -/
def SeqRun.andThen {α β : Type} (x : SeqRun α) (f : α → Nat → List Answer → SeqRun β) : SeqRun β :=
  match x with
  | .done a k rest => f a k rest
  | .raised e k rest => .raised e k rest
  | .waits k => .waits k
  | .noMove => .noMove

/-- `StreamRead(n)` (R210); `taken` counts the stream bytes the operation has taken before it. -/
def streamRead : Nat → Nat → List Answer → SeqRun (List Byte)
  | 0, taken, answers => .done [] taken answers
  | n + 1, taken, .byte b :: rest =>
    (streamRead n (taken + 1) rest).andThen fun bs k r => .done (b :: bs) k r
  | _ + 1, taken, .eof :: rest => .raised (.ioError .eof) taken rest
  | _ + 1, taken, .rdErr e :: rest => .raised (.ioError (.read e)) taken rest
  | _ + 1, taken, [] => .waits taken
  | _ + 1, _, .shutOk :: _ => .noMove
  | _ + 1, _, .shutErr _ :: _ => .noMove

/-- `Shutdown()` followed by the version error it precedes (R450, R452). -/
def shutdownThen {α : Type} (ver : Byte) (taken : Nat) : List Answer → SeqRun α
  | [] => .waits taken
  | .shutOk :: rest => .raised (.socksVersionNoSupport ver) taken rest
  | .shutErr e :: rest => .raised (.ioError (.shutdown e)) taken rest
  | .byte _ :: _ => .noMove
  | .eof :: _ => .noMove
  | .rdErr _ :: _ => .noMove

/-- Byte `i` of a group read in full. -/
def at0 (bs : List Byte) (i : Nat) : Byte := bs.getD i 0

/-- `DecodeAddress(allow_domain)` (R420, R421). -/
def decodeAddress (allowDomain : Bool) (taken : Nat) (answers : List Answer) : SeqRun WireAddress :=
  (streamRead 1 taken answers).andThen fun tag k r =>
    if at0 tag 0 = 0x01 then
      (streamRead 6 k r).andThen fun b k r =>
        .done (.ip4 (Vector.ofFn fun i => at0 b i.val) (be16 (at0 b 4) (at0 b 5))) k r
    else if at0 tag 0 = 0x04 then
      (streamRead 16 k r).andThen fun a k r =>
        (streamRead 2 k r).andThen fun p k r =>
          .done (.ip6 (Vector.ofFn fun i => at0 a i.val) (be16 (at0 p 0) (at0 p 1))) k r
    else if at0 tag 0 = 0x03 then
      if allowDomain then
        (streamRead 1 k r).andThen fun len k r =>
          (streamRead ((at0 len 0).toNat + 2) k r).andThen fun body k r =>
            .done (.domain (body.take (at0 len 0).toNat)
              (be16 (at0 body (at0 len 0).toNat) (at0 body ((at0 len 0).toNat + 1)))) k r
      else .raised (.addressTypeNotSupported 0x03) k r
    else .raised (.addressTypeNotSupported (at0 tag 0)) k r

/-- `DecodeHandshake()` (R450). -/
def decodeHandshake (answers : List Answer) : SeqRun (List Byte) :=
  (streamRead 2 0 answers).andThen fun h k r =>
    if at0 h 0 = Config.supportedVer then streamRead (at0 h 1).toNat k r else shutdownThen (at0 h 0) k r

/-- `DecodeRequest()`: command byte, reserved byte and address (R480). -/
def decodeRequest (answers : List Answer) : SeqRun (Byte × Byte × WireAddress) :=
  (streamRead 3 0 answers).andThen fun h k r =>
    if at0 h 0 = Config.supportedVer then
      if at0 h 1 = 0x01 ∨ at0 h 1 = 0x02 ∨ at0 h 1 = 0x03 then
        (decodeAddress true k r).andThen fun a k r => .done (at0 h 1, at0 h 2, a) k r
      else .raised (.commandUnSupport (at0 h 1)) k r
    else .raised (.socksVersionNoSupport (at0 h 0)) k r

end Sys2Proof.Machine
end

