-- ==== Sys2Proof/Safety.lean ====
section
/-! DEFINITION. What counts as a sound state and a safe stop: the flag invariants of R106 and the invariants of the read group, the
position and the results that 10_state, 41_address, 42_handshake, 43_request_header and 60_exceptions state. -/

namespace Sys2Proof.Machine

/-- The four flag invariants of R106. -/
structure FlagsOk (s : State) : Prop where
  rdReq_busy : s.rdReq = true → s.phase = .busy ∧ 0 < s.need.toNat
  shutReq_busy : s.shutReq = true → s.phase = .busy ∧ s.fsm = .hsShut
  not_both : ¬(s.rdReq = true ∧ s.shutReq = true)
  busy_waits : s.phase = .busy → s.rdReq = true ∨ s.shutReq = true

/-- The state is a position of the address decoder (R151). -/
def Fsm.inAddress : Fsm → Bool
  | .adTag | .adV4 | .adV6A | .adV6P | .adDlen | .adDbody => true
  | .none | .hsHdr | .hsShut | .hsMeth | .rqHdr => false

/-- The state is a position of the handshake decoder (R151). -/
def Fsm.inHandshake : Fsm → Bool
  | .hsHdr | .hsShut | .hsMeth => true
  | .none | .rqHdr | .adTag | .adV4 | .adV6A | .adV6P | .adDlen | .adDbody => false

/-- `fsm` is NONE exactly while `phase` is not BUSY, and HS_SHUT only while the shutdown is asked for (R104, R105). -/
structure FsmOk (s : State) : Prop where
  none_iff : s.fsm = .none ↔ s.phase ≠ .busy
  shut_waits : s.fsm = .hsShut → s.shutReq = true

/-- `op` names the operation whose decoder state `fsm` is, and `allow_domain` is that operation's; in IDLE the operation's
registers are clear (R102, R103, R115, R151). -/
structure OpOk (s : State) : Prop where
  op_le : s.op.toNat ≤ 8
  idle_clear : s.phase = .idle → s.op = 0 ∧ s.allowDomain = false ∧ s.need = 0 ∧ s.gcnt = 0 ∧ s.consumed = 0
  handshake_op : s.fsm.inHandshake = true → s.op = 0x1
  header_op : s.fsm = .rqHdr → s.op = 0x4
  address_op : s.fsm.inAddress = true → s.op = 0x2 ∨ s.op = 0x3 ∨ s.op = 0x4
  allows : s.phase = .busy → s.op = 0x2 ∨ s.op = 0x4 → s.allowDomain = true
  forbids : s.phase = .busy → s.op = 0x3 → s.allowDomain = false

/-- The size of the read group each decoder state takes (R151). -/
def groupSize (s : State) : Nat :=
  match s.fsm with
  | .none => 0
  | .hsHdr => 2
  | .hsShut => 0
  | .hsMeth => s.rNmeth.toNat
  | .rqHdr => 3
  | .adTag => 1
  | .adV4 => 6
  | .adV6A => 16
  | .adV6P => 2
  | .adDlen => 1
  | .adDbody => s.rDlen.toNat + 2

/-- The stream bytes the operation has taken before the address's tag. -/
def addressBase (s : State) : Nat := if s.op = 0x4 then 3 else 0

/-- The stream bytes the operation has taken before the current group (R151, R226). -/
def groupBase (s : State) : Nat :=
  match s.fsm with
  | .none => 0
  | .hsHdr => 0
  | .hsShut => 2
  | .hsMeth => 2
  | .rqHdr => 0
  | .adTag => addressBase s
  | .adV4 => addressBase s + 1
  | .adV6A => addressBase s + 1
  | .adV6P => addressBase s + 17
  | .adDlen => addressBase s + 1
  | .adDbody => addressBase s + 2

/-- An open group has its state's size, and `consumed` counts the bytes taken, never more than 262
(R107, R108, R151). -/
structure GroupOk (s : State) : Prop where
  size : s.rdReq = true → s.gcnt.toNat + s.need.toNat = groupSize s
  counts : s.rdReq = true → s.consumed.toNat = groupBase s + s.gcnt.toNat
  shut_counts : s.shutReq = true → s.consumed.toNat = 2
  bounded : s.consumed.toNat ≤ 262

/-- The command byte is one of the three (R482, R483). -/
def isCommand (b : Byte) : Prop := b = 0x01 ∨ b = 0x02 ∨ b = 0x03

/-- What the header and tag registers hold while the later groups of a frame are read (R422, R451, R482, R429). -/
structure HeaderOk (s : State) : Prop where
  methods_ver : s.fsm = .hsMeth → s.rVer = Config.supportedVer
  shut_ver : s.fsm = .hsShut → s.rVer ≠ Config.supportedVer
  request_header : s.fsm.inAddress = true → s.op = 0x4 → s.rVer = Config.supportedVer ∧ isCommand s.rCmd
  ip4_tag : s.fsm = .adV4 → s.rAtyp = 0x01
  ip6_tag : s.fsm = .adV6A ∨ s.fsm = .adV6P → s.rAtyp = 0x04
  domain_tag : s.fsm = .adDlen ∨ s.fsm = .adDbody → s.rAtyp = 0x03 ∧ s.op ≠ 0x3

/-- The wire length of the address a result holds (R431). -/
def resultLen (s : State) : Nat :=
  if s.rAtyp = 0x01 then 7 else if s.rAtyp = 0x04 then 19 else 4 + s.rDlen.toNat

/-- The address registers of an OK result (R422, R425). -/
structure AddressResultOk (s : State) : Prop where
  tag : s.rAtyp = 0x01 ∨ s.rAtyp = 0x03 ∨ s.rAtyp = 0x04
  zeros : s.rAtyp = 0x04 → s.rFlow = 0 ∧ s.rScope = 0

/-- The registers of an OK result, by kind (R110, R112, R421, R431, R453, R481, R484, R510, R511). -/
def okResult (s : State) : Prop :=
  match s.resKind with
  | .none => False
  | .handshake => s.op = 0x1 ∧ s.rVer = Config.supportedVer ∧ s.resConsumed.toNat = 2 + s.rNmeth.toNat
  | .address => (s.op = 0x2 ∨ s.op = 0x3 ∧ s.rAtyp ≠ 0x03) ∧ AddressResultOk s ∧ s.resConsumed.toNat = resultLen s
  | .request => s.op = 0x4 ∧ s.rVer = Config.supportedVer ∧ isCommand s.rCmd ∧ AddressResultOk s ∧
      s.resConsumed.toNat = 3 + resultLen s
  | .u16 => s.op = 0x5 ∧ s.resConsumed = 0
  | .u32 => s.op = 0x6 ∧ s.resConsumed = 0
  | .length => (s.op = 0x7 ∨ s.op = 0x8) ∧ s.resConsumed = 0 ∧ s.rLen.toNat ≤ 1030

/-- The registers of an ERR result: a kind the operation raises, and the shutdown's record (R457, R481, R600, R601, R602, R630). -/
structure ErrResultOk (s : State) : Prop where
  version : s.rErr = 1 → (s.op = 0x1 ∧ s.shutWr = true) ∨ s.op = 0x4
  addressType : s.rErr = 2 → s.op = 0x2 ∨ s.op = 0x3 ∨ s.op = 0x4
  command : s.rErr = 5 → s.op = 0x4
  emitted : s.rErr = 1 ∨ s.rErr = 2 ∨ s.rErr = 5 ∨ s.rErr = 10
  cause : s.rErr = 10 → s.rIoCause ≠ 0 ∧ (s.rIoCause = 3 → s.op = 0x1)
  count : s.resConsumed.toNat ≤ 262

/-- The result registers against `phase` and `RES_STATUS` (R110, R115, R620 to R623). -/
structure ResultOk (s : State) : Prop where
  status_iff : s.resStatus = .none ↔ s.phase ≠ .done
  kind_ok : s.resStatus ≠ .ok → s.resKind = .none
  ok_result : s.resStatus = .ok → okResult s
  err_result : s.resStatus = .err → ErrResultOk s
  refused_result : s.resStatus = .refused → s.rRefuse = 1 ∨ s.rRefuse = 2

/-- Everything the spec says of a state the block reaches. -/
structure Sound (s : State) : Prop where
  flags : FlagsOk s
  fsm : FsmOk s
  op : OpOk s
  group : GroupOk s
  header : HeaderOk s
  result : ResultOk s

/-- When the host may present an event: the `enabled iff` column of R150. -/
def HostMay (e : Event) (s : State) : Prop :=
  match e with
  | .cmd _ _ _ _ _ _ => s.phase = .idle
  | .byte _ => s.rdReq = true
  | .eof => s.rdReq = true
  | .rdErr _ => s.rdReq = true
  | .shutOk => s.shutReq = true
  | .shutErr _ => s.shutReq = true
  | .ack => s.phase = .done
  | .abort => s.phase = .busy ∨ s.phase = .done
  | .reset => True

/-- The operation has ended (R722). -/
def operationEnded (s : State) : Prop := s.phase = .done

/-- The stops that are the host's doing: it presents nothing, or an event that is not enabled (R150, R720). -/
def Fault.isHostStop : Fault → Bool
  | .noEvent => true
  | .notEnabled => true
  | .notAtDispatch => false
  | .noCompletionRule => false
  | .invalidRead => false

/-- The host's read of `r` answers `v` exactly when `valid` holds, and the fault otherwise (R110, R111). -/
def ReadsWhen (s : State) (r : ResReg) (valid : Prop) (v : RegValue) : Prop :=
  (valid → readRes r s = .ok v) ∧ (¬valid → readRes r s = .error .invalidRead)

/-- The same event with its native error renamed. -/
def Event.mapErr (f : TErr → TErr) : Event → Event
  | .cmd w b0 b1 b2 b3 n => .cmd w b0 b1 b2 b3 n
  | .byte b => .byte b
  | .eof => .eof
  | .rdErr e => .rdErr (f e)
  | .shutOk => .shutOk
  | .shutErr e => .shutErr (f e)
  | .ack => .ack
  | .abort => .abort
  | .reset => .reset

/-- The same state with every native error renamed: the one it holds and those of the events to come. -/
def State.mapErr (f : TErr → TErr) (s : State) : State :=
  { s with rIoErr := f s.rIoErr, host := s.host.map (Event.mapErr f) }

/-- The same register contents with the native error renamed. -/
def RegValue.mapErr (f : TErr → TErr) : RegValue → RegValue
  | .bits v => .bits v
  | .native e => .native (f e)

/-- A number of steps of the machine lead from `s` to `t`. -/
def Reaches (s t : State) : Prop := ∃ n : Nat, Host.Core.run Sys2Proof.core n s = .next t

/-- A number of steps of the machine lead from `s` to an event that is not enabled. -/
def ReachesNoMove (s : State) : Prop := ∃ n : Nat, Host.Core.run Sys2Proof.core n s = .fault .notEnabled

/-- The result registers report the error `e` (R600, R602, R620). -/
def ReportsErr (t : State) (e : Err) : Prop :=
  t.resStatus = .err ∧ t.rErr = e.code ∧ (∀ a, e.arg? = some a → t.rErrArg = a) ∧
    (∀ c, e.cause? = some c → t.rIoCause = c.code ∧ ∀ n, c.native? = some n → t.rIoErr = n)

/-- The step machine, from `s`, does what the sequential program `x` says: the same value, error or wait, the same count of bytes
taken, and the same answers left before `tail` (R14, R210). -/
def Follows {α : Type} (x : SeqRun α) (s : State) (tail : List Event) (holds : State → α → Prop) : Prop :=
  match x with
  | .done a k rest => ∃ t, Reaches s t ∧ t.phase = .done ∧ t.resStatus = .ok ∧ holds t a ∧ t.resConsumed.toNat = k ∧
      t.host = rest.map Answer.event ++ tail
  | .raised e k rest => ∃ t, Reaches s t ∧ t.phase = .done ∧ ReportsErr t e ∧ t.resConsumed.toNat = k ∧
      t.host = rest.map Answer.event ++ tail
  | .waits k => ∃ t, Reaches s t ∧ t.phase = .busy ∧ t.consumed.toNat = k ∧ t.host = tail
  | .noMove => ReachesNoMove s

end Sys2Proof.Machine
end

