-- ==== Sys2Proof/Certificates/Slice0/Obligations.lean ====
section
/-! DEFINITION. The statements for the provers. Each docstring names the rule or the section it formalises. -/

open Sys2Proof Sys2Proof.Machine

/-! ## Decoding and encoding -/

/-- Every well-formed instruction is decoded from its word at its place (30_encoding sections 1 and 5; the places are the model's,
log 10). -/
def Obligations.DecodeOfEncode : Prop :=
  ∀ i : Instr, WellFormed i = true → decode (place i) [encode i] = .ok i

/-- Whatever decodes at a place is that place's instruction, well formed, and its word is the byte read (30_encoding sections 1, 5). -/
def Obligations.EncodeOfDecode : Prop :=
  ∀ (p : Place) (bs : List Byte) (i : Instr), decode p bs = .ok i → bs = [encode i] ∧ place i = p ∧ WellFormed i = true

/-- Each command word belongs to exactly one row of the table (30_encoding section 5). -/
def Obligations.CommandWordHasOneRow : Prop :=
  ∀ w : Byte, ∃ i : Instr, (WellFormed i = true ∧ place i = .hostCmd ∧ encode i = w) ∧
    ∀ j : Instr, WellFormed j = true → place j = .hostCmd → encode j = w → j = i

/-- The words of R301, and the wire values of 30_encoding section 5, decode to what they stand for. -/
def Obligations.TableWordsDecode : Prop :=
  decodeCmd 0x01 = .hs ∧ decodeCmd 0x02 = .addr ∧ decodeCmd 0x03 = .saddr ∧ decodeCmd 0x04 = .req ∧
  decodeCmd 0x05 = .rd16 ∧ decodeCmd 0x06 = .rd32 ∧ decodeCmd 0x07 = .alen ∧ decodeCmd 0x08 = .rlen ∧
  decodeCmd 0x00 = .reserved00 ∧ decodeCmd 0x09 = .reserved09 ∧ decodeCmd 0x12 = .reserved10 0x12 ∧
  decode .hsVer [0x05] = .ok .hsVer ∧ decode .atyp [0x03] = .ok .atypDomain ∧
  decode .atyp [0x02] = .error .unknownAddressType

/-! ## The pure operations -/

/-- R410 (with R302 and R400): RD16 is word 0x05; in IDLE it puts `OPB0 * 256 + OPB1` in `R_U16`, ends with OK and U16, counts no
byte, and changes nothing else. -/
def Obligations.Rd16ReadsBigEndian : Prop :=
  decodeCmd 0x05 = .rd16 ∧
  ∀ s : State, s.phase = .idle → ∃ v : BitVec 16, v.toNat = s.opb0.toNat * 256 + s.opb1.toNat ∧
    exec .rd16 s = .next { s with
      op := 0x5, consumed := 0, rU16 := v, resConsumed := 0, resStatus := .ok, resKind := .u16,
      phase := .done, fsm := .none, rdReq := false, shutReq := false }

/-- R411 (with R302 and R401): RD32 is word 0x06; the four operand bytes, the first one highest. -/
def Obligations.Rd32ReadsBigEndian : Prop :=
  decodeCmd 0x06 = .rd32 ∧
  ∀ s : State, s.phase = .idle → ∃ v : BitVec 32,
    v.toNat = s.opb0.toNat * 2 ^ 24 + s.opb1.toNat * 2 ^ 16 + s.opb2.toNat * 2 ^ 8 + s.opb3.toNat ∧
    exec .rd32 s = .next { s with
      op := 0x6, consumed := 0, rU32 := v, resConsumed := 0, resStatus := .ok, resKind := .u32,
      phase := .done, fsm := .none, rdReq := false, shutReq := false }

/-- R512 (with R510): ALEN is word 0x07; the wire length by the tag operand, or BAD_OPERAND. -/
def Obligations.AlenGivesAddressLength : Prop :=
  decodeCmd 0x07 = .alen ∧
  ∀ s : State, s.phase = .idle →
    (∀ v : BitVec 11,
      (s.opb0 = 0x01 ∧ v.toNat = 7) ∨ (s.opb0 = 0x04 ∧ v.toNat = 19) ∨ (s.opb0 = 0x03 ∧ v.toNat = 4 + s.opn.toNat) →
      exec .alen s = .next { s with
        op := 0x7, consumed := 0, rLen := v, resConsumed := 0, resStatus := .ok, resKind := .length,
        phase := .done, fsm := .none, rdReq := false, shutReq := false }) ∧
    (s.opb0 ≠ 0x01 → s.opb0 ≠ 0x03 → s.opb0 ≠ 0x04 →
      exec .alen s = .next { s with
        op := 0x7, consumed := 0, resStatus := .refused, rRefuse := 2,
        phase := .done, fsm := .none, rdReq := false, shutReq := false })

/-- R513 (with R511): RLEN is word 0x08; three more than the address length, or BAD_OPERAND. -/
def Obligations.RlenGivesResponseLength : Prop :=
  decodeCmd 0x08 = .rlen ∧
  ∀ s : State, s.phase = .idle →
    (∀ v : BitVec 11,
      (s.opb0 = 0x01 ∧ v.toNat = 10) ∨ (s.opb0 = 0x04 ∧ v.toNat = 22) ∨ (s.opb0 = 0x03 ∧ v.toNat = 7 + s.opn.toNat) →
      exec .rlen s = .next { s with
        op := 0x8, consumed := 0, rLen := v, resConsumed := 0, resStatus := .ok, resKind := .length,
        phase := .done, fsm := .none, rdReq := false, shutReq := false }) ∧
    (s.opb0 ≠ 0x01 → s.opb0 ≠ 0x03 → s.opb0 ≠ 0x04 →
      exec .rlen s = .next { s with
        op := 0x8, consumed := 0, resStatus := .refused, rRefuse := 2,
        phase := .done, fsm := .none, rdReq := false, shutReq := false })

/-! ## Starting and refusing commands -/

/-- 30_encoding section 2: the four stream operations start in IDLE, leave the block BUSY with their first group open, and change
nothing else. -/
def Obligations.StreamCommandsOpenTheirGroup : Prop :=
  ∀ s : State, s.phase = .idle →
    exec .hs s = .next { s with
      op := 0x1, consumed := 0, phase := .busy, fsm := .hsHdr, need := 2, gcnt := 0, rdReq := true } ∧
    exec .addr s = .next { s with
      op := 0x2, consumed := 0, phase := .busy, allowDomain := true, fsm := .adTag, need := 1, gcnt := 0, rdReq := true } ∧
    exec .saddr s = .next { s with
      op := 0x3, consumed := 0, phase := .busy, allowDomain := false, fsm := .adTag, need := 1, gcnt := 0, rdReq := true } ∧
    exec .req s = .next { s with
      op := 0x4, consumed := 0, phase := .busy, allowDomain := true, fsm := .rqHdr, need := 3, gcnt := 0, rdReq := true }

/-- R330: a reserved word is refused with reason 1, an ALEN or RLEN with another tag with reason 2; no other result register is
written, no byte is counted, and ACK clears the refusal. -/
def Obligations.RefusalWritesOnlyItsRegisters : Prop :=
  ∀ s : State, s.phase = .idle →
    (∀ w : Byte, ∀ i ∈ [Instr.reserved00, Instr.reserved09, Instr.reserved0A w, Instr.reserved0C w, Instr.reserved10 w,
        Instr.reserved20 w, Instr.reserved40 w, Instr.reserved80 w],
      exec i s = .next { s with
        resStatus := .refused, rRefuse := 1, phase := .done, fsm := .none, rdReq := false, shutReq := false }) ∧
    (∀ i ∈ [Instr.alen, Instr.rlen], s.opb0 ≠ 0x01 → s.opb0 ≠ 0x03 → s.opb0 ≠ 0x04 →
      ∃ c : BitVec 4, exec i s = .next { s with
        op := c, consumed := 0, resStatus := .refused, rRefuse := 2, phase := .done, fsm := .none,
        rdReq := false, shutReq := false }) ∧
    (∀ (i : Instr) (t : State), exec i s = .next t → t.resStatus = .refused → t.phase = .done →
      ∃ u : State, onEvent .ack t = .next u ∧ u.phase = .idle ∧ u.resStatus = .none)

/-- R320: a `CMD` event, enabled only in IDLE, latches the operands; a reserved word is refused, a stream operation opens its group,
and a pure one completes in the same step with no byte counted. -/
def Obligations.CommandEventStartsTheOperation : Prop :=
  ∀ (s : State) (w b0 b1 b2 b3 : Byte) (n : BitVec 10),
    (s.phase ≠ .idle → onEvent (.cmd w b0 b1 b2 b3 n) s = .fault .notEnabled) ∧
    (s.phase = .idle → ∀ s' : State,
      s' = { s with cmd := w, opb0 := b0, opb1 := b1, opb2 := b2, opb3 := b3, opn := n } →
      ((w &&& 0xF0 ≠ 0 ∨ w &&& 0x0F = 0 ∨ 9 ≤ (w &&& 0x0F).toNat) →
        onEvent (.cmd w b0 b1 b2 b3 n) s = .next { s' with
          resStatus := .refused, rRefuse := 1, phase := .done, fsm := .none, rdReq := false, shutReq := false }) ∧
      (w = 0x01 → onEvent (.cmd w b0 b1 b2 b3 n) s = .next { s' with
          op := 0x1, consumed := 0, phase := .busy, fsm := .hsHdr, need := 2, gcnt := 0, rdReq := true }) ∧
      (w = 0x02 → onEvent (.cmd w b0 b1 b2 b3 n) s = .next { s' with
          op := 0x2, consumed := 0, phase := .busy, allowDomain := true, fsm := .adTag, need := 1, gcnt := 0, rdReq := true }) ∧
      (w = 0x03 → onEvent (.cmd w b0 b1 b2 b3 n) s = .next { s' with
          op := 0x3, consumed := 0, phase := .busy, allowDomain := false, fsm := .adTag, need := 1, gcnt := 0, rdReq := true }) ∧
      (w = 0x04 → onEvent (.cmd w b0 b1 b2 b3 n) s = .next { s' with
          op := 0x4, consumed := 0, phase := .busy, allowDomain := true, fsm := .rqHdr, need := 3, gcnt := 0, rdReq := true }) ∧
      (∀ i : Instr, (w = 0x05 ∧ i = .rd16) ∨ (w = 0x06 ∧ i = .rd32) ∨ (w = 0x07 ∧ i = .alen) ∨ (w = 0x08 ∧ i = .rlen) →
        ∃ t : State, onEvent (.cmd w b0 b1 b2 b3 n) s = .next t ∧ exec i s' = .next t ∧ t.op = w.extractLsb' 0 4 ∧
          t.consumed = 0 ∧ t.phase = .done ∧ (t.resStatus = .ok → t.resConsumed = 0)))

/-- A command has no step outside IDLE: every command row stops there, by name (10_state section 7, 70_reset section 3). -/
def Obligations.CommandNeedsIdle : Prop :=
  ∀ (i : Instr) (s : State), place i = .hostCmd → s.phase ≠ .idle → exec i s = .fault .notEnabled

/-! ## The wire dispatch rows -/

/-- R451: the header group of HS is complete. The supported version opens the method group, which with `N = 0` completes in the
same step; another version asks for the shutdown. Nothing else changes. -/
def Obligations.HandshakeHeaderDispatch : Prop :=
  ∀ s : State, s.fsm = .hsHdr → s.need = 0 →
    (s.gbyte 0 = 0x05 → s.gbyte 1 ≠ 0 →
      exec .hsVer s = .next { s with
        rVer := s.gbyte 0, rNmeth := s.gbyte 1, fsm := .hsMeth, need := (s.gbyte 1).zeroExtend 9, gcnt := 0, rdReq := true }) ∧
    (s.gbyte 0 = 0x05 → s.gbyte 1 = 0 →
      exec .hsVer s = .next { s with
        rVer := s.gbyte 0, rNmeth := 0, need := 0, gcnt := 0, resStatus := .ok, resKind := .handshake,
        resConsumed := s.consumed, fsm := .none, phase := .done, rdReq := false, shutReq := false }) ∧
    (s.gbyte 0 = 0x05 → complete s = exec .hsVer s) ∧
    (s.gbyte 0 ≠ 0x05 →
      complete s = .next { s with rVer := s.gbyte 0, rNmeth := s.gbyte 1, fsm := .hsShut, shutReq := true })

/-- 43_request_header sections 2 and 3: the header group of REQ is complete. The version is checked first, then the command byte;
a recognized command records the header and opens the tag group. The three command values are general knowledge by the spec's own
mark (G3, log 16). -/
def Obligations.RequestHeaderDispatch : Prop :=
  ∀ s : State, s.fsm = .rqHdr → s.need = 0 →
    (∀ i ∈ [Instr.reqCmdConnect, Instr.reqCmdBind, Instr.reqCmdUdpAssociate], ∀ t : State,
      t = { s with
        rVer := s.gbyte 0, rCmd := s.gbyte 1, rRsv := s.gbyte 2, fsm := .adTag, need := 1, gcnt := 0, rdReq := true } →
      s.gbyte 0 = 0x05 → s.gbyte 1 = encode i →
      exec i s = .next t ∧ exec .reqVer s = .next t ∧ complete s = .next t) ∧
    (∀ t : State,
      t = { s with
        resStatus := .err, rErr := 5, rErrArg := s.gbyte 1, resConsumed := s.consumed, rdReq := false, shutReq := false,
        fsm := .none, phase := .done } →
      s.gbyte 0 = 0x05 → s.gbyte 1 ≠ 0x01 → s.gbyte 1 ≠ 0x02 → s.gbyte 1 ≠ 0x03 →
      exec .reqVer s = .next t ∧ complete s = .next t) ∧
    (s.gbyte 0 ≠ 0x05 →
      complete s = .next { s with
        resStatus := .err, rErr := 1, rErrArg := s.gbyte 0, resConsumed := s.consumed, rdReq := false, shutReq := false,
        fsm := .none, phase := .done })

/-- R422: the tag group is complete. The three tags open their bodies; the domain tag is rejected where the domain form is
not allowed, and any other tag is rejected with its own value. Nothing else changes. -/
def Obligations.AddressTypeDispatch : Prop :=
  ∀ s : State, s.fsm = .adTag → s.need = 0 →
    (s.gbyte 0 = 0x01 → complete s = exec .atypIpv4 s ∧
      exec .atypIpv4 s = .next { s with rAtyp := 0x01, fsm := .adV4, need := 6, gcnt := 0, rdReq := true }) ∧
    (s.gbyte 0 = 0x04 → complete s = exec .atypIpv6 s ∧
      exec .atypIpv6 s = .next { s with rAtyp := 0x04, fsm := .adV6A, need := 16, gcnt := 0, rdReq := true }) ∧
    (s.gbyte 0 = 0x03 → s.allowDomain = true → complete s = exec .atypDomain s ∧
      exec .atypDomain s = .next { s with rAtyp := 0x03, fsm := .adDlen, need := 1, gcnt := 0, rdReq := true }) ∧
    (s.gbyte 0 = 0x03 → s.allowDomain = false → complete s = exec .atypDomain s ∧
      exec .atypDomain s = .next { s with
        rAtyp := 0x03, resStatus := .err, rErr := 2, rErrArg := 0x03, resConsumed := s.consumed, rdReq := false,
        shutReq := false, fsm := .none, phase := .done }) ∧
    (s.gbyte 0 ≠ 0x01 → s.gbyte 0 ≠ 0x03 → s.gbyte 0 ≠ 0x04 →
      complete s = .next { s with
        rAtyp := s.gbyte 0, resStatus := .err, rErr := 2, rErrArg := s.gbyte 0, resConsumed := s.consumed, rdReq := false,
        shutReq := false, fsm := .none, phase := .done })

/-! ## The read groups -/

/-- R211: a byte is accepted iff it is asked for; it is stored at `gcnt` and counted, and the byte that completes the group runs the
completion rule in the same step. -/
def Obligations.ByteIsStoredAndCounted : Prop :=
  ∀ (s : State) (b : Byte),
    (s.rdReq = true → ∃ p : Nat, ∀ u : State,
      u = { s with
        gbuf := s.gbuf.setIfInBounds s.gcnt.toNat b, gcnt := s.gcnt + 1, need := s.need - 1, consumed := s.consumed + 1,
        streamPos := p } →
      (s.need ≠ 1 → onEvent (.byte b) s = .next u) ∧
      (s.need = 1 → onEvent (.byte b) s = complete { u with rdReq := false })) ∧
    (s.rdReq = false → onEvent (.byte b) s = .fault .notEnabled)

/-- R212: an EOF, presented iff a byte is asked for, ends the operation with IOError, cause EOF, whatever part of the group has
arrived; no value register is readable afterwards. -/
def Obligations.EofRaisesIoError : Prop :=
  ∀ s : State,
    (s.rdReq = true → ∀ t : State,
      t = { s with
        resStatus := .err, rErr := 10, rIoCause := 1, resConsumed := s.consumed, rdReq := false, shutReq := false,
        fsm := .none, phase := .done } →
      onEvent .eof s = .next t ∧
      ∀ (r : ResReg) (v : RegValue), readRes r t = .ok v → r = .resStatus ∨ r = .resConsumed ∨ r = .rErr ∨ r = .rIoCause) ∧
    (s.rdReq = false → onEvent .eof s = .fault .notEnabled)

/-- R213: a transport fault, presented iff a byte is asked for, ends the operation with IOError, cause READ, the native error
unchanged. -/
def Obligations.ReadFaultRaisesIoError : Prop :=
  ∀ (s : State) (e : TErr),
    (s.rdReq = true →
      onEvent (.rdErr e) s = .next { s with
        resStatus := .err, rErr := 10, rIoCause := 2, rIoErr := e, resConsumed := s.consumed, rdReq := false,
        shutReq := false, fsm := .none, phase := .done }) ∧
    (s.rdReq = false → onEvent (.rdErr e) s = .fault .notEnabled)

/-- R452: the two answers to the shutdown request. -/
def Obligations.ShutdownAnswersEndTheHandshake : Prop :=
  ∀ (s : State) (e : TErr),
    (s.shutReq = true →
      onEvent .shutOk s = .next { s with
        shutWr := true, resStatus := .err, rErr := 1, rErrArg := s.rVer, resConsumed := s.consumed, rdReq := false,
        shutReq := false, fsm := .none, phase := .done } ∧
      onEvent (.shutErr e) s = .next { s with
        resStatus := .err, rErr := 10, rIoCause := 3, rIoErr := e, resConsumed := s.consumed, rdReq := false,
        shutReq := false, fsm := .none, phase := .done }) ∧
    (s.shutReq = false → onEvent .shutOk s = .fault .notEnabled ∧ onEvent (.shutErr e) s = .fault .notEnabled)

/-- R453: the last byte of the method group, and the empty method list, which completes with the header's second byte. The methods
are the group's bytes in wire order, and `2 + N` bytes were taken. -/
def Obligations.MethodsAreKeptInOrder : Prop :=
  ∀ (s : State) (b : Byte), Sound s → s.rdReq = true → s.need = 1 →
    (s.fsm = .hsMeth → ∃ t : State, onEvent (.byte b) s = .next t ∧
      (∀ i : Fin 255, t.rMethods[i] = if i.val < s.rNmeth.toNat then (takeByte b s).gbyte i.val else s.rMethods[i]) ∧
      t.resConsumed.toNat = 2 + s.rNmeth.toNat ∧
      t = { takeByte b s with
        rMethods := t.rMethods, resStatus := .ok, resKind := .handshake, resConsumed := t.resConsumed, rdReq := false,
        shutReq := false, fsm := .none, phase := .done }) ∧
    (s.fsm = .hsHdr → s.gbyte 0 = 0x05 → b = 0 → ∃ t : State, onEvent (.byte b) s = .next t ∧
      t.rNmeth = 0 ∧ t.rMethods = s.rMethods ∧ t.resStatus = .ok ∧ t.resKind = .handshake ∧ t.resConsumed.toNat = 2)

/-- R424 (with R423): the last byte of the IPv4 group; a short group reports no part of the address. -/
def Obligations.Ip4GroupGivesAddressAndPort : Prop :=
  ∀ (s : State) (b : Byte), Sound s → s.rdReq = true → s.fsm = .adV4 →
    (s.need = 1 → ∃ t : State, onEvent (.byte b) s = .next t ∧
      (∀ i : Fin 4, t.rIp4[i] = (takeByte b s).gbyte i.val) ∧
      t.rPort = be16 ((takeByte b s).gbyte 4) ((takeByte b s).gbyte 5) ∧
      (s.op ≠ 0x4 → t.resConsumed.toNat = 7) ∧
      t = { takeByte b s with
        rIp4 := t.rIp4, rPort := t.rPort, resStatus := .ok, resKind := if s.op = 0x4 then .request else .address,
        resConsumed := t.resConsumed, rdReq := false, shutReq := false, fsm := .none, phase := .done }) ∧
    (∃ t : State, onEvent .eof s = .next t ∧ t.resStatus = .err ∧ t.rErr = 10 ∧ readRes .rPort t = .error .invalidRead ∧
      ∀ i : Nat, readRes (.rIp4 i) t = .error .invalidRead)

/-- R425 (with R423): the last byte of the IPv6 address, then the last byte of its port. -/
def Obligations.Ip6GroupsGiveAddressAndPort : Prop :=
  ∀ (s : State) (b : Byte), Sound s → s.rdReq = true → s.need = 1 →
    (s.fsm = .adV6A → ∃ t : State, onEvent (.byte b) s = .next t ∧
      (∀ i : Fin 16, t.rIp6[i] = (takeByte b s).gbyte i.val) ∧
      t = { takeByte b s with rIp6 := t.rIp6, fsm := .adV6P, need := 2, gcnt := 0, rdReq := true }) ∧
    (s.fsm = .adV6P → ∃ t : State, onEvent (.byte b) s = .next t ∧
      t.rPort = be16 ((takeByte b s).gbyte 0) ((takeByte b s).gbyte 1) ∧
      (s.op ≠ 0x4 → t.resConsumed.toNat = 19) ∧
      t = { takeByte b s with
        rPort := t.rPort, rFlow := 0, rScope := 0, resStatus := .ok,
        resKind := if s.op = 0x4 then .request else .address, resConsumed := t.resConsumed, rdReq := false,
        shutReq := false, fsm := .none, phase := .done })

/-- R429: the restricted decoder rejects the domain tag in the step that completes the tag group, after exactly one byte, and asks for
no length byte. -/
def Obligations.RestrictedDecoderTakesOneByte : Prop :=
  ∀ s : State, Sound s → s.rdReq = true → s.fsm = .adTag → s.allowDomain = false →
    onEvent (.byte 0x03) s = .next { takeByte 0x03 s with
      rAtyp := 0x03, resStatus := .err, rErr := 2, rErrArg := 0x03, resConsumed := 1, rdReq := false, shutReq := false,
      fsm := .none, phase := .done }

/-- R427: the length byte opens a body of `L + 2` bytes. -/
def Obligations.LengthByteOpensTheBody : Prop :=
  ∀ (s : State) (b : Byte), Sound s → s.rdReq = true → s.fsm = .adDlen → ∃ n : BitVec 9, n.toNat = b.toNat + 2 ∧
    onEvent (.byte b) s = .next { takeByte b s with rDlen := b, fsm := .adDbody, need := n, gcnt := 0, rdReq := true }

/-- R428 (with R423): the last byte of the domain body; the name is the first `L` bytes, the port the last two. A short body reports
neither. -/
def Obligations.DomainBodyGivesNameAndPort : Prop :=
  ∀ (s : State) (b : Byte), Sound s → s.rdReq = true → s.fsm = .adDbody →
    (s.need = 1 → ∃ t : State, onEvent (.byte b) s = .next t ∧
      (∀ i : Fin 255, t.rName[i] = if i.val < s.rDlen.toNat then (takeByte b s).gbyte i.val else s.rName[i]) ∧
      t.rPort = be16 ((takeByte b s).gbyte s.rDlen.toNat) ((takeByte b s).gbyte (s.rDlen.toNat + 1)) ∧
      (s.op ≠ 0x4 → t.resConsumed.toNat = 4 + s.rDlen.toNat) ∧
      t = { takeByte b s with
        rName := t.rName, rPort := t.rPort, resStatus := .ok, resKind := if s.op = 0x4 then .request else .address,
        resConsumed := t.resConsumed, rdReq := false, shutReq := false, fsm := .none, phase := .done }) ∧
    (∃ t : State, onEvent .eof s = .next t ∧ t.resStatus = .err ∧ t.rErr = 10 ∧ readRes .rPort t = .error .invalidRead ∧
      ∀ i : Nat, readRes (.rName i) t = .error .invalidRead)

/-- When the last byte of a group arrives, `gcnt` is the size the state's group has and every byte of the buffer below it is one of the
group; and the completion depends on no other byte of the buffer: another buffer with the same group leads to the same state but for
the buffer (R107, R211; 10_state section 4). -/
def Obligations.GroupIsWholeWhenItCompletes : Prop :=
  ∀ (s : State) (b : Byte), Sound s → s.rdReq = true → s.need = 1 →
    ((takeByte b s).gcnt.toNat = groupSize s ∧ (takeByte b s).need = 0 ∧
      (takeByte b s).gbyte s.gcnt.toNat = b ∧ ∀ i : Nat, i < s.gcnt.toNat → (takeByte b s).gbyte i = s.gbyte i) ∧
    (∀ s' : State, s' = { s with gbuf := s'.gbuf } → (∀ i : Nat, i < s.gcnt.toNat → s'.gbyte i = s.gbyte i) →
      ∃ t t' : State, onEvent (.byte b) s = .next t ∧ onEvent (.byte b) s' = .next t' ∧ t' = { t with gbuf := t'.gbuf })

/-! ## Ending and returning -/

/-- R620: what raising an error writes, for each kind of the taxonomy, that nothing else changes, and that no value
register is readable afterwards. -/
def Obligations.RaiseWritesTheErrorRegisters : Prop :=
  ∀ (k : Err) (s : State), ∃ (arg : Byte) (cause : BitVec 2) (native : TErr),
    arg = (match k with
      | .socksVersionNoSupport v => v
      | .addressTypeNotSupported c => c
      | .commandUnSupport c => c
      | .ioError _ | .invalidDomainEncoding | .noSupportAuth | .invalidReply | .repliedError | .protocolIncorrect
      | .invalidData => s.rErrArg) ∧
    (match k with
      | .ioError .eof => cause = 1 ∧ native = s.rIoErr
      | .ioError (.read e) => cause = 2 ∧ native = e
      | .ioError (.shutdown e) => cause = 3 ∧ native = e
      | .socksVersionNoSupport _ | .addressTypeNotSupported _ | .commandUnSupport _ | .invalidDomainEncoding
      | .noSupportAuth | .invalidReply | .repliedError | .protocolIncorrect | .invalidData =>
        cause = s.rIoCause ∧ native = s.rIoErr) ∧
    raise k s = { s with
      resStatus := .err, rErr := k.code, rErrArg := arg, rIoCause := cause, rIoErr := native, resConsumed := s.consumed,
      rdReq := false, shutReq := false, fsm := .none, phase := .done } ∧
    ∀ (r : ResReg) (v : RegValue), readRes r (raise k s) = .ok v →
      r = .resStatus ∨ r = .resConsumed ∨ r = .rErr ∨ r = .rErrArg ∨ r = .rIoCause ∨ r = .rIoErr

/-- R622: ACK in DONE returns to IDLE and clears the operation's registers; `shut_wr` and the other result registers keep their bits. -/
def Obligations.AckReturnsToIdle : Prop :=
  ∀ s : State,
    (s.phase = .done →
      onEvent .ack s = .next { s with
        phase := .idle, resStatus := .none, resKind := .none, op := 0, allowDomain := false, fsm := .none, need := 0,
        gcnt := 0, consumed := 0 }) ∧
    (s.phase ≠ .done → onEvent .ack s = .fault .notEnabled)

/-- R623: ABORT in BUSY or DONE returns to IDLE and withdraws the requests; `shut_wr` is unchanged. -/
def Obligations.AbortReturnsToIdle : Prop :=
  ∀ s : State,
    (s.phase ≠ .idle →
      onEvent .abort s = .next { s with
        phase := .idle, resStatus := .none, resKind := .none, op := 0, allowDomain := false, fsm := .none, need := 0,
        gcnt := 0, consumed := 0, rdReq := false, shutReq := false }) ∧
    (s.phase = .idle → onEvent .abort s = .fault .notEnabled)

/-- R700: RESET, in every state, puts the registers of the reset table to their values and takes no stream byte; it is the only event
that clears `shut_wr`. -/
def Obligations.ResetPutsTheResetValues : Prop :=
  ∀ s : State,
    (∃ t : State, onEvent .reset s = .next t ∧
      t.phase = .idle ∧ t.resStatus = .none ∧ t.resKind = .none ∧ t.op = 0 ∧ t.allowDomain = false ∧ t.fsm = .none ∧
      t.need = 0 ∧ t.gcnt = 0 ∧ t.consumed = 0 ∧ t.rdReq = false ∧ t.shutReq = false ∧ t.shutWr = false ∧ t.host = s.host) ∧
    (∀ (e : Event) (t : State), onEvent e s = .next t → s.shutWr = true → t.shutWr = false → e = .reset)

/-- R160: the values the spec gives for reset hold in the machine's reset state. -/
def Obligations.ResetStateHasTheResetValues : Prop :=
  ∀ t : State, t = Sys2Proof.core.reset →
    t.phase = .idle ∧ t.op = 0 ∧ t.allowDomain = false ∧ t.fsm = .none ∧ t.need = 0 ∧ t.gcnt = 0 ∧ t.consumed = 0 ∧
    t.rdReq = false ∧ t.shutReq = false ∧ t.shutWr = false ∧ t.resStatus = .none ∧ t.resKind = .none

/-! ## Steps -/

/-- A step at a command word runs the decoded instruction on the latched operands; a step whose byte completes a dispatching group
runs the row that byte decodes to. Both have consumed their event. -/
def Obligations.StepRunsTheDecodedInstruction : Prop :=
  (∀ (s : State) (w b0 b1 b2 b3 : Byte) (n : BitVec 10) (rest : List Event) (i : Instr),
    s.host = .cmd w b0 b1 b2 b3 n :: rest → s.phase = .idle → decode .hostCmd [w] = .ok i →
    step s = exec i { s with host := rest, cmd := w, opb0 := b0, opb1 := b1, opb2 := b2, opb3 := b3, opn := n }) ∧
  (∀ (s : State) (b : Byte) (rest : List Event) (i : Instr),
    s.host = .byte b :: rest → s.rdReq = true → s.need = 1 →
    (s.fsm = .hsHdr ∧ decode .hsVer [(takeByte b s).gbyte 0] = .ok i ∨
      s.fsm = .rqHdr ∧ decode .reqVer [(takeByte b s).gbyte 0] = .ok i ∨
      s.fsm = .adTag ∧ decode .atyp [(takeByte b s).gbyte 0] = .ok i) →
    step s = exec i { takeByte b s with host := rest, rdReq := false })

/-- In a sound state every enabled event takes a step that completes, and an event that is not enabled has none (10_state section 7);
the model says the latter as the fault notEnabled (log 4). That a step takes the first event of the list in the state is the model's
choice (log 2), and that it stops with noEvent where the list is empty is its reading (log 3). -/
def Obligations.EventsStepExactlyWhenEnabled : Prop :=
  ∀ s : State, Sound s →
    (∀ e : Event, (HostMay e s → ∃ t : State, onEvent e s = .next t) ∧
      (¬HostMay e s → onEvent e s = .fault .notEnabled)) ∧
    (s.host = [] → step s = .fault .noEvent) ∧
    (∀ (e : Event) (rest : List Event), s.host = e :: rest → step s = onEvent e { s with host := rest })

/-- The machine's sound states hold at reset. -/
def Obligations.ResetStateIsSound : Prop := Sound Sys2Proof.Machine.State.reset

/-- Every step keeps the four flag invariants of 10_state section 3 (an inference the spec marks as its own, R106). -/
def Obligations.StepKeepsTheFlagInvariants : Prop :=
  ∀ s t : State, FlagsOk s → step s = .next t → FlagsOk t

/-- Every step keeps everything the spec says of a state the block reaches: flags, position, operation, read group, headers, results. -/
def Obligations.StepKeepsSoundStates : Prop :=
  ∀ s t : State, Sound s → step s = .next t → Sound t

/-- In a sound state a step stops only because the host presents nothing, or an event that is not enabled. -/
def Obligations.StepStopsOnlyForTheHost : Prop :=
  ∀ s : State, Sound s →
    (∀ f : Fault, step s = .fault f → f.isHostStop = true) ∧ (∀ r : Refusal, step s ≠ .refused r)

/-- R601: no step puts a code into `R_ERR` but 1, 2, 5 and 10; codes 3, 4, 6, 7, 8 and 9 have no emission path. -/
def Obligations.UnemittedKindsAreNeverRaised : Prop :=
  ∀ s t : State, step s = .next t → t.rErr = s.rErr ∨ t.rErr = 1 ∨ t.rErr = 2 ∨ t.rErr = 5 ∨ t.rErr = 10

/-- `shut_wr` is set only by SHUT_OK and cleared only by RESET (10_state section 3, 70_reset section 1). -/
def Obligations.ShutWrChangesOnlyByShutOkAndReset : Prop :=
  ∀ s t : State, step s = .next t →
    (s.shutWr = true → t.shutWr = false → ∃ rest : List Event, s.host = .reset :: rest) ∧
    (s.shutWr = false → t.shutWr = true → ∃ rest : List Event, s.host = .shutOk :: rest)

/-- The stream position moves by one at a BYTE event, returns to 0 at RESET and stands still otherwise (the model's reading of
20_memory section 4, log 9). -/
def Obligations.OnlyBytesMoveTheStream : Prop :=
  ∀ (s t : State) (e : Event), onEvent e s = .next t →
    t.streamPos = (match e with
      | .byte _ => s.streamPos + 1
      | .reset => 0
      | .cmd _ _ _ _ _ _ => s.streamPos
      | .eof => s.streamPos
      | .rdErr _ => s.streamPos
      | .shutOk => s.streamPos
      | .shutErr _ => s.streamPos
      | .ack => s.streamPos
      | .abort => s.streamPos)

/-- A native error is passed through unchanged and never inspected (00_scope section 5; parameter P1 of 92_eei_decisions): renaming
every native error before a step, or a read, renames it after, and does nothing else. -/
def Obligations.NativeErrorsAreNeverInspected : Prop :=
  ∀ (f : TErr → TErr) (s : State),
    (step (s.mapErr f) = match step s with
      | .next t => .next (t.mapErr f)
      | .fault r => .fault r
      | .refused r => .refused r) ∧
    ∀ r : ResReg, readRes r (s.mapErr f) = (readRes r s).map (RegValue.mapErr f)

/-- A result stands until the host takes it: in DONE only ACK, ABORT and RESET have a step (60_exceptions section 2). -/
def Obligations.ResultStandsUntilReleased : Prop :=
  ∀ (s t : State) (e : Event), Sound s → s.phase = .done → onEvent e s = .next t → e = .ack ∨ e = .abort ∨ e = .reset

/-- An open read group always ends: given 262 bytes or more, the block stops asking within 262 of them, the longest frame
(10_state section 4, 43_request_header section 1). -/
def Obligations.ReadingEndsWithinTheLongestFrame : Prop :=
  ∀ (s : State) (bs : List Byte), Sound s → s.rdReq = true → 262 ≤ bs.length → s.host = bs.map Event.byte →
    ∃ (n : Nat) (t : State), n ≤ 262 ∧ Host.Core.run Sys2Proof.core n s = .next t ∧ t.rdReq = false ∧
      t.host = (bs.drop n).map Event.byte

/-! ## What the host reads -/

/-- Each result register's read answers the register exactly when the row of the table of 10_state section 5 says that it is valid, with
the table's numbers for RES_STATUS and RES_KIND, and faults otherwise; the flag outputs are the flags (10_state section 3). That no
register but RES_STATUS is valid outside DONE, and that a row listed by `R_ATYP` needs an address result, is the model's reading
(log 8). -/
def Obligations.ReadsAnswerExactlyWhenValid : Prop :=
  ∀ (s : State) (ok err handshake request address : Prop),
    (ok ↔ s.phase = .done ∧ s.resStatus = .ok) → (err ↔ s.phase = .done ∧ s.resStatus = .err) →
    (handshake ↔ ok ∧ s.resKind = .handshake) → (request ↔ ok ∧ s.resKind = .request) →
    (address ↔ ok ∧ (s.resKind = .address ∨ s.resKind = .request)) →
    ReadsWhen s .resStatus True (.bits (match s.resStatus with
      | .none => 0
      | .ok => 1
      | .err => 2
      | .refused => 3)) ∧
    ReadsWhen s .resKind ok (.bits (match s.resKind with
      | .none => 0
      | .handshake => 1
      | .address => 2
      | .request => 3
      | .u16 => 4
      | .u32 => 5
      | .length => 6)) ∧
    ReadsWhen s .resConsumed (ok ∨ err) (.bits s.resConsumed.toNat) ∧
    ReadsWhen s .rVer (handshake ∨ request) (.bits s.rVer.toNat) ∧
    ReadsWhen s .rNmeth handshake (.bits s.rNmeth.toNat) ∧
    (∀ i : Fin 255, ReadsWhen s (.rMethods i.val) (handshake ∧ i.val < s.rNmeth.toNat) (.bits s.rMethods[i].toNat)) ∧
    ReadsWhen s .rCmd request (.bits s.rCmd.toNat) ∧
    ReadsWhen s .rRsv request (.bits s.rRsv.toNat) ∧
    ReadsWhen s .rAtyp address (.bits s.rAtyp.toNat) ∧
    (∀ i : Fin 4, ReadsWhen s (.rIp4 i.val) (address ∧ s.rAtyp = 0x01) (.bits s.rIp4[i].toNat)) ∧
    (∀ i : Fin 16, ReadsWhen s (.rIp6 i.val) (address ∧ s.rAtyp = 0x04) (.bits s.rIp6[i].toNat)) ∧
    ReadsWhen s .rFlow (address ∧ s.rAtyp = 0x04) (.bits s.rFlow.toNat) ∧
    ReadsWhen s .rScope (address ∧ s.rAtyp = 0x04) (.bits s.rScope.toNat) ∧
    ReadsWhen s .rDlen (address ∧ s.rAtyp = 0x03) (.bits s.rDlen.toNat) ∧
    (∀ i : Fin 255, ReadsWhen s (.rName i.val) (address ∧ s.rAtyp = 0x03 ∧ i.val < s.rDlen.toNat) (.bits s.rName[i].toNat)) ∧
    ReadsWhen s .rPort address (.bits s.rPort.toNat) ∧
    ReadsWhen s .rU16 (ok ∧ s.resKind = .u16) (.bits s.rU16.toNat) ∧
    ReadsWhen s .rU32 (ok ∧ s.resKind = .u32) (.bits s.rU32.toNat) ∧
    ReadsWhen s .rLen (ok ∧ s.resKind = .length) (.bits s.rLen.toNat) ∧
    ReadsWhen s .rErr err (.bits s.rErr.toNat) ∧
    ReadsWhen s .rErrArg (err ∧ (s.rErr = 1 ∨ s.rErr = 2 ∨ s.rErr = 5)) (.bits s.rErrArg.toNat) ∧
    ReadsWhen s .rIoCause (err ∧ s.rErr = 10) (.bits s.rIoCause.toNat) ∧
    ReadsWhen s .rIoErr (err ∧ s.rErr = 10 ∧ (s.rIoCause = 2 ∨ s.rIoCause = 3)) (.native s.rIoErr) ∧
    ReadsWhen s .rRefuse (s.phase = .done ∧ s.resStatus = .refused) (.bits s.rRefuse.toNat) ∧
    (∀ i : Nat,
      (4 ≤ i → readRes (.rIp4 i) s = .error .invalidRead) ∧ (16 ≤ i → readRes (.rIp6 i) s = .error .invalidRead) ∧
      (255 ≤ i → readRes (.rMethods i) s = .error .invalidRead ∧ readRes (.rName i) s = .error .invalidRead)) ∧
    s.flagView = { busy := s.phase = .busy, resValid := s.phase = .done, rdReq := s.rdReq, shutReq := s.shutReq, shutWr := s.shutWr }

/-- Outside DONE no result register but RES_STATUS holds a value for the host: the read faults (10_state section 5). -/
def Obligations.NothingIsReadableOutsideDone : Prop :=
  ∀ (r : ResReg) (s : State), s.phase ≠ .done → r ≠ .resStatus → readRes r s = .error .invalidRead

/-- On an ERR result no value register is readable: only the status, the count and the error registers are (R111, 60_exceptions
section 2). -/
def Obligations.NoPartialValueOnError : Prop :=
  ∀ (r : ResReg) (s : State), s.resStatus = .err → (∃ v : RegValue, readRes r s = .ok v) →
    r = .resStatus ∨ r = .resConsumed ∨ r = .rErr ∨ r = .rErrArg ∨ r = .rIoCause ∨ r = .rIoErr

/-- An aborted operation leaves nothing to see: two blocks that agree on `shut_wr` show the same flags and results after ABORT,
whatever they were doing (10_state section 6, 60_exceptions section 2). -/
def Obligations.AbortHidesTheOperation : Prop :=
  ∀ s s' t t' : State, s.shutWr = s'.shutWr → onEvent .abort s = .next t → onEvent .abort s' = .next t' →
    t.flagView = t'.flagView ∧ ∀ r : ResReg, readRes r t = readRes r t'

/-- While an operation waits, what the host sees does not depend on the bytes taken so far: two sound BUSY blocks in the same request
state show the same flags and results (10_state section 6). -/
def Obligations.BusyShowsOnlyTheRequest : Prop :=
  ∀ s s' : State, Sound s → Sound s' → s.phase = .busy → s'.phase = .busy → s.shutReq = s'.shutReq → s.shutWr = s'.shutWr →
    s.flagView = s'.flagView ∧ ∀ r : ResReg, readRes r s = readRes r s'

/-- The integer views compose the address bytes big-endian (10_state section 5, 20_memory section 3). -/
def Obligations.ViewsAreBigEndian : Prop :=
  ∀ s : State,
    (s.hasAtyp 0x01 = true → ∃ v : BitVec 32, s.ip4U32 = .ok v ∧
      v.toNat = (s.rIp4[0]).toNat * 2 ^ 24 + (s.rIp4[1]).toNat * 2 ^ 16 + (s.rIp4[2]).toNat * 2 ^ 8 + (s.rIp4[3]).toNat) ∧
    (s.hasAtyp 0x04 = true → ∀ i : Fin 8, ∃ v : BitVec 16, s.ip6Seg i.val = .ok v ∧
      v.toNat = (s.rIp6[2 * i.val]'(by have := i.isLt; simp only [Config.ip6Bytes]; omega)).toNat * 256 +
        (s.rIp6[2 * i.val + 1]'(by have := i.isLt; simp only [Config.ip6Bytes]; omega)).toNat) ∧
    (s.hasAtyp 0x01 = false → s.ip4U32 = .error .invalidRead) ∧
    (s.hasAtyp 0x04 = false → ∀ i : Nat, s.ip6Seg i = .error .invalidRead)

/-- The length of a decoded address equals the bytes consumed, for every tag, where the name is well-formed UTF-8 (44_wire_length
section 4; the UTF-8 table is general knowledge by the spec's own mark, G2, log 15). -/
def Obligations.DecodedLengthIsConsumed : Prop :=
  ∀ (s : State) (cs : List Nat), Sound s → s.hasKind .address = true →
    (s.rAtyp = 0x03 → s.nameBytes = cs.flatMap encodeScalar ∧ ∀ c ∈ cs, isScalar c = true) →
    ∃ a : Address, s.address = .ok a ∧ a.len = s.resConsumed.toNat

/-! ## Lossy UTF-8 (general knowledge by the spec's own mark: G1, G2, log 15) -/

/-- Well-formed UTF-8 is decoded exactly, and its length is its byte count (41_address section 4). -/
def Obligations.WellFormedNameDecodesExactly : Prop :=
  ∀ cs : List Nat, (∀ c ∈ cs, isScalar c = true) →
    lossyUtf8 (cs.flatMap encodeScalar) = cs ∧ lossyLen (cs.flatMap encodeScalar) = (cs.flatMap encodeScalar).length

/-- The lossy length is at most three times the byte count, and every scalar it gives is a Unicode scalar value (41_address
section 4). -/
def Obligations.LossyLengthIsBounded : Prop :=
  ∀ bs : List Byte, lossyLen bs ≤ 3 * bs.length ∧ ∀ c ∈ lossyUtf8 bs, isScalar c = true

/-! ## The step machine and the sequential programs -/

/-- ADDR and SADDR, step by step, do what `DecodeAddress(allow_domain)` does on the same answers (41_address section 1). -/
def Obligations.AddressStepsFollowTheProgram : Prop :=
  ∀ (s : State) (b0 b1 b2 b3 : Byte) (n : BitVec 10) (answers : List Answer) (tail : List Event),
    FlagsOk s → s.phase = .idle →
    (s.host = .cmd 0x02 b0 b1 b2 b3 n :: (answers.map Answer.event ++ tail) →
      Follows (decodeAddress true 0 answers) s tail
        (fun t a => t.wireAddress = .ok a ∧ t.address = .ok a.value ∧ t.resKind = .address)) ∧
    (s.host = .cmd 0x03 b0 b1 b2 b3 n :: (answers.map Answer.event ++ tail) →
      Follows (decodeAddress false 0 answers) s tail
        (fun t a => t.wireAddress = .ok a ∧ t.address = .ok a.value ∧ t.resKind = .address))

/-- HS, step by step, does what `DecodeHandshake()` does on the same answers (42_handshake section 1). -/
def Obligations.HandshakeStepsFollowTheProgram : Prop :=
  ∀ (s : State) (b0 b1 b2 b3 : Byte) (n : BitVec 10) (answers : List Answer) (tail : List Event),
    FlagsOk s → s.phase = .idle → s.host = .cmd 0x01 b0 b1 b2 b3 n :: (answers.map Answer.event ++ tail) →
    Follows (decodeHandshake answers) s tail
      (fun t ms => t.methods = .ok ms ∧ t.rVer = 0x05 ∧ t.rNmeth.toNat = ms.length)

/-- REQ, step by step, does what `DecodeRequest()` does on the same answers (43_request_header section 1). -/
def Obligations.RequestStepsFollowTheProgram : Prop :=
  ∀ (s : State) (b0 b1 b2 b3 : Byte) (n : BitVec 10) (answers : List Answer) (tail : List Event),
    FlagsOk s → s.phase = .idle → s.host = .cmd 0x04 b0 b1 b2 b3 n :: (answers.map Answer.event ++ tail) →
    Follows (decodeRequest answers) s tail
      (fun t r => t.rVer = 0x05 ∧ t.rCmd = r.1 ∧ t.rRsv = r.2.1 ∧ t.wireAddress = .ok r.2.2 ∧ t.resKind = .request ∧
        ∃ h : RequestHeader, t.requestHeader = .ok h ∧ h.rsv = r.2.1 ∧ h.address = r.2.2.value)

/-- ADDR on the wire layout of any address gives back that address, takes exactly its bytes, and leaves the rest of the stream
(41_address section 3, 95_test_vectors section 1). -/
def Obligations.AddressFrameIsDecoded : Prop :=
  ∀ (s : State) (a : WireAddress) (tail : List Event),
    FlagsOk s → s.phase = .idle → a.encodable = true →
    s.host = .cmd 0x02 0 0 0 0 0 :: ((addressFrame a).map Event.byte ++ tail) →
    ∃ t : State, Reaches s t ∧ t.wireAddress = .ok a ∧ t.address = .ok a.value ∧
      t.resConsumed.toNat = (addressFrame a).length ∧ t.host = tail

/-- REQ on the wire layout of any request header with one of the three commands and any reserved byte gives back its fields
(43_request_header sections 1 and 3; the command values are general knowledge, G3, log 16). -/
def Obligations.RequestFrameIsDecoded : Prop :=
  ∀ (s : State) (c rsv : Byte) (a : WireAddress) (tail : List Event),
    FlagsOk s → s.phase = .idle → a.encodable = true → isCommand c →
    s.host = .cmd 0x04 0 0 0 0 0 :: ((requestFrame c rsv a).map Event.byte ++ tail) →
    ∃ t : State, Reaches s t ∧ t.rCmd = c ∧ t.rRsv = rsv ∧ t.wireAddress = .ok a ∧ t.resKind = .request ∧
      t.resConsumed.toNat = (requestFrame c rsv a).length ∧ t.host = tail

/-- HS on the wire layout of any method list gives back the list, in order (42_handshake section 2). -/
def Obligations.HandshakeFrameIsDecoded : Prop :=
  ∀ (s : State) (ms : List Byte) (tail : List Event),
    FlagsOk s → s.phase = .idle → ms.length ≤ 255 →
    s.host = .cmd 0x01 0 0 0 0 0 :: ((handshakeFrame ms).map Event.byte ++ tail) →
    ∃ t : State, Reaches s t ∧ t.methods = .ok ms ∧ t.resConsumed.toNat = 2 + ms.length ∧ t.host = tail

/-! ## Several instances -/

/-- A step of one instance is its own machine's step, and changes no other instance (60_exceptions section 7). -/
def Obligations.InstancesAreIndependent : Prop :=
  ∀ (n : Nat) (sys sys' : System n) (k : Fin n), System.stepAt k sys = .next sys' →
    step sys[k] = .next sys'[k] ∧ ∀ j : Fin n, j ≠ k → sys'[j] = sys[j]
end

