-- ==== Sys2Proof/Laws/State.lean ====
section
/-! SUPPORT. One rule per field per update of the state, each true by rfl: after an update of Machine/Ops.lean or Machine/Events.lean, what every
field holds. Each theorem joins the rules of one update (simp takes them apart into one rewrite per field). -/

namespace Sys2Proof.Machine

variable (s : State)

/-- The fields after `raise` (R620). -/
@[simp] theorem raise_fields (k : Err) :
    (raise k s).fsm = .none ∧ (raise k s).phase = .done ∧ (raise k s).rdReq = false ∧ (raise k s).shutReq = false ∧
    (raise k s).resStatus = .err ∧ (raise k s).resConsumed = s.consumed ∧ (raise k s).rErr = k.code ∧
    (raise k s).rErrArg = k.arg?.getD s.rErrArg ∧ (raise k s).rIoCause = (k.cause?.map IoCause.code).getD s.rIoCause ∧
    (raise k s).rIoErr = (k.cause?.bind IoCause.native?).getD s.rIoErr ∧ (raise k s).cmd = s.cmd ∧
    (raise k s).opb0 = s.opb0 ∧ (raise k s).opb1 = s.opb1 ∧ (raise k s).opb2 = s.opb2 ∧ (raise k s).opb3 = s.opb3 ∧
    (raise k s).opn = s.opn ∧ (raise k s).op = s.op ∧ (raise k s).allowDomain = s.allowDomain ∧
    (raise k s).shutWr = s.shutWr ∧ (raise k s).need = s.need ∧ (raise k s).gcnt = s.gcnt ∧ (raise k s).gbuf = s.gbuf ∧
    (raise k s).consumed = s.consumed ∧ (raise k s).resKind = s.resKind ∧ (raise k s).rVer = s.rVer ∧
    (raise k s).rNmeth = s.rNmeth ∧ (raise k s).rMethods = s.rMethods ∧ (raise k s).rCmd = s.rCmd ∧
    (raise k s).rRsv = s.rRsv ∧ (raise k s).rAtyp = s.rAtyp ∧ (raise k s).rIp4 = s.rIp4 ∧ (raise k s).rIp6 = s.rIp6 ∧
    (raise k s).rFlow = s.rFlow ∧ (raise k s).rScope = s.rScope ∧ (raise k s).rDlen = s.rDlen ∧
    (raise k s).rName = s.rName ∧ (raise k s).rPort = s.rPort ∧ (raise k s).rU16 = s.rU16 ∧ (raise k s).rU32 = s.rU32 ∧
    (raise k s).rLen = s.rLen ∧ (raise k s).rRefuse = s.rRefuse ∧ (raise k s).streamPos = s.streamPos ∧
    (raise k s).host = s.host := by
  repeat' (first | exact rfl | refine ⟨rfl, ?_⟩)

/-- The fields after `finish` (R621). -/
@[simp] theorem finish_fields (kind : Kind) :
    (finish kind s).fsm = .none ∧ (finish kind s).phase = .done ∧ (finish kind s).rdReq = false ∧
    (finish kind s).shutReq = false ∧ (finish kind s).resStatus = .ok ∧ (finish kind s).resKind = kind ∧
    (finish kind s).resConsumed = s.consumed ∧ (finish kind s).cmd = s.cmd ∧ (finish kind s).opb0 = s.opb0 ∧
    (finish kind s).opb1 = s.opb1 ∧ (finish kind s).opb2 = s.opb2 ∧ (finish kind s).opb3 = s.opb3 ∧
    (finish kind s).opn = s.opn ∧ (finish kind s).op = s.op ∧ (finish kind s).allowDomain = s.allowDomain ∧
    (finish kind s).shutWr = s.shutWr ∧ (finish kind s).need = s.need ∧ (finish kind s).gcnt = s.gcnt ∧
    (finish kind s).gbuf = s.gbuf ∧ (finish kind s).consumed = s.consumed ∧ (finish kind s).rVer = s.rVer ∧
    (finish kind s).rNmeth = s.rNmeth ∧ (finish kind s).rMethods = s.rMethods ∧ (finish kind s).rCmd = s.rCmd ∧
    (finish kind s).rRsv = s.rRsv ∧ (finish kind s).rAtyp = s.rAtyp ∧ (finish kind s).rIp4 = s.rIp4 ∧
    (finish kind s).rIp6 = s.rIp6 ∧ (finish kind s).rFlow = s.rFlow ∧ (finish kind s).rScope = s.rScope ∧
    (finish kind s).rDlen = s.rDlen ∧ (finish kind s).rName = s.rName ∧ (finish kind s).rPort = s.rPort ∧
    (finish kind s).rU16 = s.rU16 ∧ (finish kind s).rU32 = s.rU32 ∧ (finish kind s).rLen = s.rLen ∧
    (finish kind s).rErr = s.rErr ∧ (finish kind s).rErrArg = s.rErrArg ∧ (finish kind s).rIoCause = s.rIoCause ∧
    (finish kind s).rIoErr = s.rIoErr ∧ (finish kind s).rRefuse = s.rRefuse ∧ (finish kind s).streamPos = s.streamPos ∧
    (finish kind s).host = s.host := by
  repeat' (first | exact rfl | refine ⟨rfl, ?_⟩)

/-- The fields after `refuse` (R330). -/
@[simp] theorem refuse_fields (reason : RefuseReason) :
    (refuse reason s).fsm = .none ∧ (refuse reason s).phase = .done ∧ (refuse reason s).rdReq = false ∧
    (refuse reason s).shutReq = false ∧ (refuse reason s).resStatus = .refused ∧ (refuse reason s).rRefuse = reason.code ∧
    (refuse reason s).cmd = s.cmd ∧ (refuse reason s).opb0 = s.opb0 ∧ (refuse reason s).opb1 = s.opb1 ∧
    (refuse reason s).opb2 = s.opb2 ∧ (refuse reason s).opb3 = s.opb3 ∧ (refuse reason s).opn = s.opn ∧
    (refuse reason s).op = s.op ∧ (refuse reason s).allowDomain = s.allowDomain ∧ (refuse reason s).shutWr = s.shutWr ∧
    (refuse reason s).need = s.need ∧ (refuse reason s).gcnt = s.gcnt ∧ (refuse reason s).gbuf = s.gbuf ∧
    (refuse reason s).consumed = s.consumed ∧ (refuse reason s).resKind = s.resKind ∧
    (refuse reason s).resConsumed = s.resConsumed ∧ (refuse reason s).rVer = s.rVer ∧ (refuse reason s).rNmeth = s.rNmeth ∧
    (refuse reason s).rMethods = s.rMethods ∧ (refuse reason s).rCmd = s.rCmd ∧ (refuse reason s).rRsv = s.rRsv ∧
    (refuse reason s).rAtyp = s.rAtyp ∧ (refuse reason s).rIp4 = s.rIp4 ∧ (refuse reason s).rIp6 = s.rIp6 ∧
    (refuse reason s).rFlow = s.rFlow ∧ (refuse reason s).rScope = s.rScope ∧ (refuse reason s).rDlen = s.rDlen ∧
    (refuse reason s).rName = s.rName ∧ (refuse reason s).rPort = s.rPort ∧ (refuse reason s).rU16 = s.rU16 ∧
    (refuse reason s).rU32 = s.rU32 ∧ (refuse reason s).rLen = s.rLen ∧ (refuse reason s).rErr = s.rErr ∧
    (refuse reason s).rErrArg = s.rErrArg ∧ (refuse reason s).rIoCause = s.rIoCause ∧ (refuse reason s).rIoErr = s.rIoErr ∧
    (refuse reason s).streamPos = s.streamPos ∧ (refuse reason s).host = s.host := by
  repeat' (first | exact rfl | refine ⟨rfl, ?_⟩)

/-- The fields after `release` (R622, R623). -/
@[simp] theorem release_fields :
    (release s).op = 0 ∧ (release s).allowDomain = false ∧ (release s).fsm = .none ∧ (release s).phase = .idle ∧
    (release s).need = 0 ∧ (release s).gcnt = 0 ∧ (release s).consumed = 0 ∧ (release s).resStatus = .none ∧
    (release s).resKind = .none ∧ (release s).cmd = s.cmd ∧ (release s).opb0 = s.opb0 ∧ (release s).opb1 = s.opb1 ∧
    (release s).opb2 = s.opb2 ∧ (release s).opb3 = s.opb3 ∧ (release s).opn = s.opn ∧ (release s).rdReq = s.rdReq ∧
    (release s).shutReq = s.shutReq ∧ (release s).shutWr = s.shutWr ∧ (release s).gbuf = s.gbuf ∧
    (release s).resConsumed = s.resConsumed ∧ (release s).rVer = s.rVer ∧ (release s).rNmeth = s.rNmeth ∧
    (release s).rMethods = s.rMethods ∧ (release s).rCmd = s.rCmd ∧ (release s).rRsv = s.rRsv ∧
    (release s).rAtyp = s.rAtyp ∧ (release s).rIp4 = s.rIp4 ∧ (release s).rIp6 = s.rIp6 ∧ (release s).rFlow = s.rFlow ∧
    (release s).rScope = s.rScope ∧ (release s).rDlen = s.rDlen ∧ (release s).rName = s.rName ∧
    (release s).rPort = s.rPort ∧ (release s).rU16 = s.rU16 ∧ (release s).rU32 = s.rU32 ∧ (release s).rLen = s.rLen ∧
    (release s).rErr = s.rErr ∧ (release s).rErrArg = s.rErrArg ∧ (release s).rIoCause = s.rIoCause ∧
    (release s).rIoErr = s.rIoErr ∧ (release s).rRefuse = s.rRefuse ∧ (release s).streamPos = s.streamPos ∧
    (release s).host = s.host := by
  repeat' (first | exact rfl | refine ⟨rfl, ?_⟩)

/-- The fields after `latch` (R101). -/
@[simp] theorem latch_fields (w b0 b1 b2 b3 : Byte) (n : BitVec 10) :
    (latch w b0 b1 b2 b3 n s).cmd = w ∧ (latch w b0 b1 b2 b3 n s).opb0 = b0 ∧ (latch w b0 b1 b2 b3 n s).opb1 = b1 ∧
    (latch w b0 b1 b2 b3 n s).opb2 = b2 ∧ (latch w b0 b1 b2 b3 n s).opb3 = b3 ∧ (latch w b0 b1 b2 b3 n s).opn = n ∧
    (latch w b0 b1 b2 b3 n s).op = s.op ∧ (latch w b0 b1 b2 b3 n s).allowDomain = s.allowDomain ∧
    (latch w b0 b1 b2 b3 n s).fsm = s.fsm ∧ (latch w b0 b1 b2 b3 n s).phase = s.phase ∧
    (latch w b0 b1 b2 b3 n s).rdReq = s.rdReq ∧ (latch w b0 b1 b2 b3 n s).shutReq = s.shutReq ∧
    (latch w b0 b1 b2 b3 n s).shutWr = s.shutWr ∧ (latch w b0 b1 b2 b3 n s).need = s.need ∧
    (latch w b0 b1 b2 b3 n s).gcnt = s.gcnt ∧ (latch w b0 b1 b2 b3 n s).gbuf = s.gbuf ∧
    (latch w b0 b1 b2 b3 n s).consumed = s.consumed ∧ (latch w b0 b1 b2 b3 n s).resStatus = s.resStatus ∧
    (latch w b0 b1 b2 b3 n s).resKind = s.resKind ∧ (latch w b0 b1 b2 b3 n s).resConsumed = s.resConsumed ∧
    (latch w b0 b1 b2 b3 n s).rVer = s.rVer ∧ (latch w b0 b1 b2 b3 n s).rNmeth = s.rNmeth ∧
    (latch w b0 b1 b2 b3 n s).rMethods = s.rMethods ∧ (latch w b0 b1 b2 b3 n s).rCmd = s.rCmd ∧
    (latch w b0 b1 b2 b3 n s).rRsv = s.rRsv ∧ (latch w b0 b1 b2 b3 n s).rAtyp = s.rAtyp ∧
    (latch w b0 b1 b2 b3 n s).rIp4 = s.rIp4 ∧ (latch w b0 b1 b2 b3 n s).rIp6 = s.rIp6 ∧
    (latch w b0 b1 b2 b3 n s).rFlow = s.rFlow ∧ (latch w b0 b1 b2 b3 n s).rScope = s.rScope ∧
    (latch w b0 b1 b2 b3 n s).rDlen = s.rDlen ∧ (latch w b0 b1 b2 b3 n s).rName = s.rName ∧
    (latch w b0 b1 b2 b3 n s).rPort = s.rPort ∧ (latch w b0 b1 b2 b3 n s).rU16 = s.rU16 ∧
    (latch w b0 b1 b2 b3 n s).rU32 = s.rU32 ∧ (latch w b0 b1 b2 b3 n s).rLen = s.rLen ∧
    (latch w b0 b1 b2 b3 n s).rErr = s.rErr ∧ (latch w b0 b1 b2 b3 n s).rErrArg = s.rErrArg ∧
    (latch w b0 b1 b2 b3 n s).rIoCause = s.rIoCause ∧ (latch w b0 b1 b2 b3 n s).rIoErr = s.rIoErr ∧
    (latch w b0 b1 b2 b3 n s).rRefuse = s.rRefuse ∧ (latch w b0 b1 b2 b3 n s).streamPos = s.streamPos ∧
    (latch w b0 b1 b2 b3 n s).host = s.host := by
  repeat' (first | exact rfl | refine ⟨rfl, ?_⟩)

/-- The fields after `accept` (R320). -/
@[simp] theorem accept_fields (c : BitVec 4) :
    (accept c s).op = c ∧ (accept c s).consumed = 0 ∧ (accept c s).cmd = s.cmd ∧ (accept c s).opb0 = s.opb0 ∧
    (accept c s).opb1 = s.opb1 ∧ (accept c s).opb2 = s.opb2 ∧ (accept c s).opb3 = s.opb3 ∧ (accept c s).opn = s.opn ∧
    (accept c s).allowDomain = s.allowDomain ∧ (accept c s).fsm = s.fsm ∧ (accept c s).phase = s.phase ∧
    (accept c s).rdReq = s.rdReq ∧ (accept c s).shutReq = s.shutReq ∧ (accept c s).shutWr = s.shutWr ∧
    (accept c s).need = s.need ∧ (accept c s).gcnt = s.gcnt ∧ (accept c s).gbuf = s.gbuf ∧
    (accept c s).resStatus = s.resStatus ∧ (accept c s).resKind = s.resKind ∧ (accept c s).resConsumed = s.resConsumed ∧
    (accept c s).rVer = s.rVer ∧ (accept c s).rNmeth = s.rNmeth ∧ (accept c s).rMethods = s.rMethods ∧
    (accept c s).rCmd = s.rCmd ∧ (accept c s).rRsv = s.rRsv ∧ (accept c s).rAtyp = s.rAtyp ∧ (accept c s).rIp4 = s.rIp4 ∧
    (accept c s).rIp6 = s.rIp6 ∧ (accept c s).rFlow = s.rFlow ∧ (accept c s).rScope = s.rScope ∧
    (accept c s).rDlen = s.rDlen ∧ (accept c s).rName = s.rName ∧ (accept c s).rPort = s.rPort ∧
    (accept c s).rU16 = s.rU16 ∧ (accept c s).rU32 = s.rU32 ∧ (accept c s).rLen = s.rLen ∧ (accept c s).rErr = s.rErr ∧
    (accept c s).rErrArg = s.rErrArg ∧ (accept c s).rIoCause = s.rIoCause ∧ (accept c s).rIoErr = s.rIoErr ∧
    (accept c s).rRefuse = s.rRefuse ∧ (accept c s).streamPos = s.streamPos ∧ (accept c s).host = s.host := by
  repeat' (first | exact rfl | refine ⟨rfl, ?_⟩)

/-- The fields after `enter` (R152). -/
@[simp] theorem enter_fields (f : Fsm) (n : BitVec 9) :
    (enter f n s).fsm = f ∧ (enter f n s).rdReq = true ∧ (enter f n s).need = n ∧ (enter f n s).gcnt = 0 ∧
    (enter f n s).cmd = s.cmd ∧ (enter f n s).opb0 = s.opb0 ∧ (enter f n s).opb1 = s.opb1 ∧ (enter f n s).opb2 = s.opb2 ∧
    (enter f n s).opb3 = s.opb3 ∧ (enter f n s).opn = s.opn ∧ (enter f n s).op = s.op ∧
    (enter f n s).allowDomain = s.allowDomain ∧ (enter f n s).phase = s.phase ∧ (enter f n s).shutReq = s.shutReq ∧
    (enter f n s).shutWr = s.shutWr ∧ (enter f n s).gbuf = s.gbuf ∧ (enter f n s).consumed = s.consumed ∧
    (enter f n s).resStatus = s.resStatus ∧ (enter f n s).resKind = s.resKind ∧ (enter f n s).resConsumed = s.resConsumed ∧
    (enter f n s).rVer = s.rVer ∧ (enter f n s).rNmeth = s.rNmeth ∧ (enter f n s).rMethods = s.rMethods ∧
    (enter f n s).rCmd = s.rCmd ∧ (enter f n s).rRsv = s.rRsv ∧ (enter f n s).rAtyp = s.rAtyp ∧
    (enter f n s).rIp4 = s.rIp4 ∧ (enter f n s).rIp6 = s.rIp6 ∧ (enter f n s).rFlow = s.rFlow ∧
    (enter f n s).rScope = s.rScope ∧ (enter f n s).rDlen = s.rDlen ∧ (enter f n s).rName = s.rName ∧
    (enter f n s).rPort = s.rPort ∧ (enter f n s).rU16 = s.rU16 ∧ (enter f n s).rU32 = s.rU32 ∧
    (enter f n s).rLen = s.rLen ∧ (enter f n s).rErr = s.rErr ∧ (enter f n s).rErrArg = s.rErrArg ∧
    (enter f n s).rIoCause = s.rIoCause ∧ (enter f n s).rIoErr = s.rIoErr ∧ (enter f n s).rRefuse = s.rRefuse ∧
    (enter f n s).streamPos = s.streamPos ∧ (enter f n s).host = s.host := by
  repeat' (first | exact rfl | refine ⟨rfl, ?_⟩)

/-- The fields after `startGroup` (R320). -/
@[simp] theorem startGroup_fields (f : Fsm) (n : BitVec 9) :
    (startGroup f n s).fsm = f ∧ (startGroup f n s).phase = .busy ∧ (startGroup f n s).rdReq = true ∧
    (startGroup f n s).need = n ∧ (startGroup f n s).gcnt = 0 ∧ (startGroup f n s).cmd = s.cmd ∧
    (startGroup f n s).opb0 = s.opb0 ∧ (startGroup f n s).opb1 = s.opb1 ∧ (startGroup f n s).opb2 = s.opb2 ∧
    (startGroup f n s).opb3 = s.opb3 ∧ (startGroup f n s).opn = s.opn ∧ (startGroup f n s).op = s.op ∧
    (startGroup f n s).allowDomain = s.allowDomain ∧ (startGroup f n s).shutReq = s.shutReq ∧
    (startGroup f n s).shutWr = s.shutWr ∧ (startGroup f n s).gbuf = s.gbuf ∧ (startGroup f n s).consumed = s.consumed ∧
    (startGroup f n s).resStatus = s.resStatus ∧ (startGroup f n s).resKind = s.resKind ∧
    (startGroup f n s).resConsumed = s.resConsumed ∧ (startGroup f n s).rVer = s.rVer ∧
    (startGroup f n s).rNmeth = s.rNmeth ∧ (startGroup f n s).rMethods = s.rMethods ∧ (startGroup f n s).rCmd = s.rCmd ∧
    (startGroup f n s).rRsv = s.rRsv ∧ (startGroup f n s).rAtyp = s.rAtyp ∧ (startGroup f n s).rIp4 = s.rIp4 ∧
    (startGroup f n s).rIp6 = s.rIp6 ∧ (startGroup f n s).rFlow = s.rFlow ∧ (startGroup f n s).rScope = s.rScope ∧
    (startGroup f n s).rDlen = s.rDlen ∧ (startGroup f n s).rName = s.rName ∧ (startGroup f n s).rPort = s.rPort ∧
    (startGroup f n s).rU16 = s.rU16 ∧ (startGroup f n s).rU32 = s.rU32 ∧ (startGroup f n s).rLen = s.rLen ∧
    (startGroup f n s).rErr = s.rErr ∧ (startGroup f n s).rErrArg = s.rErrArg ∧ (startGroup f n s).rIoCause = s.rIoCause ∧
    (startGroup f n s).rIoErr = s.rIoErr ∧ (startGroup f n s).rRefuse = s.rRefuse ∧
    (startGroup f n s).streamPos = s.streamPos ∧ (startGroup f n s).host = s.host := by
  repeat' (first | exact rfl | refine ⟨rfl, ?_⟩)

/-- The fields after `takeByte` (R211). -/
@[simp] theorem takeByte_fields (b : Byte) :
    (takeByte b s).need = s.need - 1 ∧ (takeByte b s).gcnt = s.gcnt + 1 ∧
    (takeByte b s).gbuf = s.gbuf.setIfInBounds s.gcnt.toNat b ∧ (takeByte b s).consumed = s.consumed + 1 ∧
    (takeByte b s).streamPos = s.streamPos + 1 ∧ (takeByte b s).cmd = s.cmd ∧ (takeByte b s).opb0 = s.opb0 ∧
    (takeByte b s).opb1 = s.opb1 ∧ (takeByte b s).opb2 = s.opb2 ∧ (takeByte b s).opb3 = s.opb3 ∧
    (takeByte b s).opn = s.opn ∧ (takeByte b s).op = s.op ∧ (takeByte b s).allowDomain = s.allowDomain ∧
    (takeByte b s).fsm = s.fsm ∧ (takeByte b s).phase = s.phase ∧ (takeByte b s).rdReq = s.rdReq ∧
    (takeByte b s).shutReq = s.shutReq ∧ (takeByte b s).shutWr = s.shutWr ∧ (takeByte b s).resStatus = s.resStatus ∧
    (takeByte b s).resKind = s.resKind ∧ (takeByte b s).resConsumed = s.resConsumed ∧ (takeByte b s).rVer = s.rVer ∧
    (takeByte b s).rNmeth = s.rNmeth ∧ (takeByte b s).rMethods = s.rMethods ∧ (takeByte b s).rCmd = s.rCmd ∧
    (takeByte b s).rRsv = s.rRsv ∧ (takeByte b s).rAtyp = s.rAtyp ∧ (takeByte b s).rIp4 = s.rIp4 ∧
    (takeByte b s).rIp6 = s.rIp6 ∧ (takeByte b s).rFlow = s.rFlow ∧ (takeByte b s).rScope = s.rScope ∧
    (takeByte b s).rDlen = s.rDlen ∧ (takeByte b s).rName = s.rName ∧ (takeByte b s).rPort = s.rPort ∧
    (takeByte b s).rU16 = s.rU16 ∧ (takeByte b s).rU32 = s.rU32 ∧ (takeByte b s).rLen = s.rLen ∧
    (takeByte b s).rErr = s.rErr ∧ (takeByte b s).rErrArg = s.rErrArg ∧ (takeByte b s).rIoCause = s.rIoCause ∧
    (takeByte b s).rIoErr = s.rIoErr ∧ (takeByte b s).rRefuse = s.rRefuse ∧ (takeByte b s).host = s.host := by
  repeat' (first | exact rfl | refine ⟨rfl, ?_⟩)

/-- The fields after `onAbort` (R623). -/
@[simp] theorem onAbort_fields :
    (onAbort s).op = 0 ∧ (onAbort s).allowDomain = false ∧ (onAbort s).fsm = .none ∧ (onAbort s).phase = .idle ∧
    (onAbort s).rdReq = false ∧ (onAbort s).shutReq = false ∧ (onAbort s).need = 0 ∧ (onAbort s).gcnt = 0 ∧
    (onAbort s).consumed = 0 ∧ (onAbort s).resStatus = .none ∧ (onAbort s).resKind = .none ∧ (onAbort s).cmd = s.cmd ∧
    (onAbort s).opb0 = s.opb0 ∧ (onAbort s).opb1 = s.opb1 ∧ (onAbort s).opb2 = s.opb2 ∧ (onAbort s).opb3 = s.opb3 ∧
    (onAbort s).opn = s.opn ∧ (onAbort s).shutWr = s.shutWr ∧ (onAbort s).gbuf = s.gbuf ∧
    (onAbort s).resConsumed = s.resConsumed ∧ (onAbort s).rVer = s.rVer ∧ (onAbort s).rNmeth = s.rNmeth ∧
    (onAbort s).rMethods = s.rMethods ∧ (onAbort s).rCmd = s.rCmd ∧ (onAbort s).rRsv = s.rRsv ∧
    (onAbort s).rAtyp = s.rAtyp ∧ (onAbort s).rIp4 = s.rIp4 ∧ (onAbort s).rIp6 = s.rIp6 ∧ (onAbort s).rFlow = s.rFlow ∧
    (onAbort s).rScope = s.rScope ∧ (onAbort s).rDlen = s.rDlen ∧ (onAbort s).rName = s.rName ∧
    (onAbort s).rPort = s.rPort ∧ (onAbort s).rU16 = s.rU16 ∧ (onAbort s).rU32 = s.rU32 ∧ (onAbort s).rLen = s.rLen ∧
    (onAbort s).rErr = s.rErr ∧ (onAbort s).rErrArg = s.rErrArg ∧ (onAbort s).rIoCause = s.rIoCause ∧
    (onAbort s).rIoErr = s.rIoErr ∧ (onAbort s).rRefuse = s.rRefuse ∧ (onAbort s).streamPos = s.streamPos ∧
    (onAbort s).host = s.host := by
  repeat' (first | exact rfl | refine ⟨rfl, ?_⟩)

/-- The fields after `onReset` (R700). -/
@[simp] theorem onReset_fields :
    (onReset s).op = 0 ∧ (onReset s).allowDomain = false ∧ (onReset s).fsm = .none ∧ (onReset s).phase = .idle ∧
    (onReset s).rdReq = false ∧ (onReset s).shutReq = false ∧ (onReset s).shutWr = false ∧ (onReset s).need = 0 ∧
    (onReset s).gcnt = 0 ∧ (onReset s).consumed = 0 ∧ (onReset s).resStatus = .none ∧ (onReset s).resKind = .none ∧
    (onReset s).streamPos = 0 ∧ (onReset s).cmd = s.cmd ∧ (onReset s).opb0 = s.opb0 ∧ (onReset s).opb1 = s.opb1 ∧
    (onReset s).opb2 = s.opb2 ∧ (onReset s).opb3 = s.opb3 ∧ (onReset s).opn = s.opn ∧ (onReset s).gbuf = s.gbuf ∧
    (onReset s).resConsumed = s.resConsumed ∧ (onReset s).rVer = s.rVer ∧ (onReset s).rNmeth = s.rNmeth ∧
    (onReset s).rMethods = s.rMethods ∧ (onReset s).rCmd = s.rCmd ∧ (onReset s).rRsv = s.rRsv ∧
    (onReset s).rAtyp = s.rAtyp ∧ (onReset s).rIp4 = s.rIp4 ∧ (onReset s).rIp6 = s.rIp6 ∧ (onReset s).rFlow = s.rFlow ∧
    (onReset s).rScope = s.rScope ∧ (onReset s).rDlen = s.rDlen ∧ (onReset s).rName = s.rName ∧
    (onReset s).rPort = s.rPort ∧ (onReset s).rU16 = s.rU16 ∧ (onReset s).rU32 = s.rU32 ∧ (onReset s).rLen = s.rLen ∧
    (onReset s).rErr = s.rErr ∧ (onReset s).rErrArg = s.rErrArg ∧ (onReset s).rIoCause = s.rIoCause ∧
    (onReset s).rIoErr = s.rIoErr ∧ (onReset s).rRefuse = s.rRefuse ∧ (onReset s).host = s.host := by
  repeat' (first | exact rfl | refine ⟨rfl, ?_⟩)

/-- The fields after `presentWord` (R150). -/
@[simp] theorem presentWord_fields (w : Byte) :
    (presentWord w s).phase = .idle ∧ (presentWord w s).host = .cmd w 0 0 0 0 0 :: s.host ∧ (presentWord w s).cmd = s.cmd ∧
    (presentWord w s).opb0 = s.opb0 ∧ (presentWord w s).opb1 = s.opb1 ∧ (presentWord w s).opb2 = s.opb2 ∧
    (presentWord w s).opb3 = s.opb3 ∧ (presentWord w s).opn = s.opn ∧ (presentWord w s).op = s.op ∧
    (presentWord w s).allowDomain = s.allowDomain ∧ (presentWord w s).fsm = s.fsm ∧ (presentWord w s).rdReq = s.rdReq ∧
    (presentWord w s).shutReq = s.shutReq ∧ (presentWord w s).shutWr = s.shutWr ∧ (presentWord w s).need = s.need ∧
    (presentWord w s).gcnt = s.gcnt ∧ (presentWord w s).gbuf = s.gbuf ∧ (presentWord w s).consumed = s.consumed ∧
    (presentWord w s).resStatus = s.resStatus ∧ (presentWord w s).resKind = s.resKind ∧
    (presentWord w s).resConsumed = s.resConsumed ∧ (presentWord w s).rVer = s.rVer ∧ (presentWord w s).rNmeth = s.rNmeth ∧
    (presentWord w s).rMethods = s.rMethods ∧ (presentWord w s).rCmd = s.rCmd ∧ (presentWord w s).rRsv = s.rRsv ∧
    (presentWord w s).rAtyp = s.rAtyp ∧ (presentWord w s).rIp4 = s.rIp4 ∧ (presentWord w s).rIp6 = s.rIp6 ∧
    (presentWord w s).rFlow = s.rFlow ∧ (presentWord w s).rScope = s.rScope ∧ (presentWord w s).rDlen = s.rDlen ∧
    (presentWord w s).rName = s.rName ∧ (presentWord w s).rPort = s.rPort ∧ (presentWord w s).rU16 = s.rU16 ∧
    (presentWord w s).rU32 = s.rU32 ∧ (presentWord w s).rLen = s.rLen ∧ (presentWord w s).rErr = s.rErr ∧
    (presentWord w s).rErrArg = s.rErrArg ∧ (presentWord w s).rIoCause = s.rIoCause ∧ (presentWord w s).rIoErr = s.rIoErr ∧
    (presentWord w s).rRefuse = s.rRefuse ∧ (presentWord w s).streamPos = s.streamPos := by
  repeat' (first | exact rfl | refine ⟨rfl, ?_⟩)

/-- The fields after `closeGroup` (R211). -/
@[simp] theorem closeGroup_fields :
    (closeGroup s).rdReq = false ∧ (closeGroup s).cmd = s.cmd ∧ (closeGroup s).opb0 = s.opb0 ∧
    (closeGroup s).opb1 = s.opb1 ∧ (closeGroup s).opb2 = s.opb2 ∧ (closeGroup s).opb3 = s.opb3 ∧
    (closeGroup s).opn = s.opn ∧ (closeGroup s).op = s.op ∧ (closeGroup s).allowDomain = s.allowDomain ∧
    (closeGroup s).fsm = s.fsm ∧ (closeGroup s).phase = s.phase ∧ (closeGroup s).shutReq = s.shutReq ∧
    (closeGroup s).shutWr = s.shutWr ∧ (closeGroup s).need = s.need ∧ (closeGroup s).gcnt = s.gcnt ∧
    (closeGroup s).gbuf = s.gbuf ∧ (closeGroup s).consumed = s.consumed ∧ (closeGroup s).resStatus = s.resStatus ∧
    (closeGroup s).resKind = s.resKind ∧ (closeGroup s).resConsumed = s.resConsumed ∧ (closeGroup s).rVer = s.rVer ∧
    (closeGroup s).rNmeth = s.rNmeth ∧ (closeGroup s).rMethods = s.rMethods ∧ (closeGroup s).rCmd = s.rCmd ∧
    (closeGroup s).rRsv = s.rRsv ∧ (closeGroup s).rAtyp = s.rAtyp ∧ (closeGroup s).rIp4 = s.rIp4 ∧
    (closeGroup s).rIp6 = s.rIp6 ∧ (closeGroup s).rFlow = s.rFlow ∧ (closeGroup s).rScope = s.rScope ∧
    (closeGroup s).rDlen = s.rDlen ∧ (closeGroup s).rName = s.rName ∧ (closeGroup s).rPort = s.rPort ∧
    (closeGroup s).rU16 = s.rU16 ∧ (closeGroup s).rU32 = s.rU32 ∧ (closeGroup s).rLen = s.rLen ∧
    (closeGroup s).rErr = s.rErr ∧ (closeGroup s).rErrArg = s.rErrArg ∧ (closeGroup s).rIoCause = s.rIoCause ∧
    (closeGroup s).rIoErr = s.rIoErr ∧ (closeGroup s).rRefuse = s.rRefuse ∧ (closeGroup s).streamPos = s.streamPos ∧
    (closeGroup s).host = s.host := by
  repeat' (first | exact rfl | refine ⟨rfl, ?_⟩)

/-- The fields after `withHost` (R150). -/
@[simp] theorem withHost_fields (events : List Event) :
    (withHost events s).host = events ∧ (withHost events s).cmd = s.cmd ∧ (withHost events s).opb0 = s.opb0 ∧
    (withHost events s).opb1 = s.opb1 ∧ (withHost events s).opb2 = s.opb2 ∧ (withHost events s).opb3 = s.opb3 ∧
    (withHost events s).opn = s.opn ∧ (withHost events s).op = s.op ∧ (withHost events s).allowDomain = s.allowDomain ∧
    (withHost events s).fsm = s.fsm ∧ (withHost events s).phase = s.phase ∧ (withHost events s).rdReq = s.rdReq ∧
    (withHost events s).shutReq = s.shutReq ∧ (withHost events s).shutWr = s.shutWr ∧ (withHost events s).need = s.need ∧
    (withHost events s).gcnt = s.gcnt ∧ (withHost events s).gbuf = s.gbuf ∧ (withHost events s).consumed = s.consumed ∧
    (withHost events s).resStatus = s.resStatus ∧ (withHost events s).resKind = s.resKind ∧
    (withHost events s).resConsumed = s.resConsumed ∧ (withHost events s).rVer = s.rVer ∧
    (withHost events s).rNmeth = s.rNmeth ∧ (withHost events s).rMethods = s.rMethods ∧ (withHost events s).rCmd = s.rCmd ∧
    (withHost events s).rRsv = s.rRsv ∧ (withHost events s).rAtyp = s.rAtyp ∧ (withHost events s).rIp4 = s.rIp4 ∧
    (withHost events s).rIp6 = s.rIp6 ∧ (withHost events s).rFlow = s.rFlow ∧ (withHost events s).rScope = s.rScope ∧
    (withHost events s).rDlen = s.rDlen ∧ (withHost events s).rName = s.rName ∧ (withHost events s).rPort = s.rPort ∧
    (withHost events s).rU16 = s.rU16 ∧ (withHost events s).rU32 = s.rU32 ∧ (withHost events s).rLen = s.rLen ∧
    (withHost events s).rErr = s.rErr ∧ (withHost events s).rErrArg = s.rErrArg ∧
    (withHost events s).rIoCause = s.rIoCause ∧ (withHost events s).rIoErr = s.rIoErr ∧
    (withHost events s).rRefuse = s.rRefuse ∧ (withHost events s).streamPos = s.streamPos := by
  repeat' (first | exact rfl | refine ⟨rfl, ?_⟩)

/-- The fields after `enterEmpty` (R152). -/
@[simp] theorem enterEmpty_fields (f : Fsm) :
    (enterEmpty f s).fsm = f ∧ (enterEmpty f s).rdReq = false ∧ (enterEmpty f s).need = 0 ∧ (enterEmpty f s).gcnt = 0 ∧
    (enterEmpty f s).cmd = s.cmd ∧ (enterEmpty f s).opb0 = s.opb0 ∧ (enterEmpty f s).opb1 = s.opb1 ∧
    (enterEmpty f s).opb2 = s.opb2 ∧ (enterEmpty f s).opb3 = s.opb3 ∧ (enterEmpty f s).opn = s.opn ∧
    (enterEmpty f s).op = s.op ∧ (enterEmpty f s).allowDomain = s.allowDomain ∧ (enterEmpty f s).phase = s.phase ∧
    (enterEmpty f s).shutReq = s.shutReq ∧ (enterEmpty f s).shutWr = s.shutWr ∧ (enterEmpty f s).gbuf = s.gbuf ∧
    (enterEmpty f s).consumed = s.consumed ∧ (enterEmpty f s).resStatus = s.resStatus ∧
    (enterEmpty f s).resKind = s.resKind ∧ (enterEmpty f s).resConsumed = s.resConsumed ∧ (enterEmpty f s).rVer = s.rVer ∧
    (enterEmpty f s).rNmeth = s.rNmeth ∧ (enterEmpty f s).rMethods = s.rMethods ∧ (enterEmpty f s).rCmd = s.rCmd ∧
    (enterEmpty f s).rRsv = s.rRsv ∧ (enterEmpty f s).rAtyp = s.rAtyp ∧ (enterEmpty f s).rIp4 = s.rIp4 ∧
    (enterEmpty f s).rIp6 = s.rIp6 ∧ (enterEmpty f s).rFlow = s.rFlow ∧ (enterEmpty f s).rScope = s.rScope ∧
    (enterEmpty f s).rDlen = s.rDlen ∧ (enterEmpty f s).rName = s.rName ∧ (enterEmpty f s).rPort = s.rPort ∧
    (enterEmpty f s).rU16 = s.rU16 ∧ (enterEmpty f s).rU32 = s.rU32 ∧ (enterEmpty f s).rLen = s.rLen ∧
    (enterEmpty f s).rErr = s.rErr ∧ (enterEmpty f s).rErrArg = s.rErrArg ∧ (enterEmpty f s).rIoCause = s.rIoCause ∧
    (enterEmpty f s).rIoErr = s.rIoErr ∧ (enterEmpty f s).rRefuse = s.rRefuse ∧ (enterEmpty f s).streamPos = s.streamPos ∧
    (enterEmpty f s).host = s.host := by
  repeat' (first | exact rfl | refine ⟨rfl, ?_⟩)

/-- The fields after `recordTag` (R422). -/
@[simp] theorem recordTag_fields (t : Byte) :
    (recordTag t s).rAtyp = t ∧ (recordTag t s).cmd = s.cmd ∧ (recordTag t s).opb0 = s.opb0 ∧
    (recordTag t s).opb1 = s.opb1 ∧ (recordTag t s).opb2 = s.opb2 ∧ (recordTag t s).opb3 = s.opb3 ∧
    (recordTag t s).opn = s.opn ∧ (recordTag t s).op = s.op ∧ (recordTag t s).allowDomain = s.allowDomain ∧
    (recordTag t s).fsm = s.fsm ∧ (recordTag t s).phase = s.phase ∧ (recordTag t s).rdReq = s.rdReq ∧
    (recordTag t s).shutReq = s.shutReq ∧ (recordTag t s).shutWr = s.shutWr ∧ (recordTag t s).need = s.need ∧
    (recordTag t s).gcnt = s.gcnt ∧ (recordTag t s).gbuf = s.gbuf ∧ (recordTag t s).consumed = s.consumed ∧
    (recordTag t s).resStatus = s.resStatus ∧ (recordTag t s).resKind = s.resKind ∧
    (recordTag t s).resConsumed = s.resConsumed ∧ (recordTag t s).rVer = s.rVer ∧ (recordTag t s).rNmeth = s.rNmeth ∧
    (recordTag t s).rMethods = s.rMethods ∧ (recordTag t s).rCmd = s.rCmd ∧ (recordTag t s).rRsv = s.rRsv ∧
    (recordTag t s).rIp4 = s.rIp4 ∧ (recordTag t s).rIp6 = s.rIp6 ∧ (recordTag t s).rFlow = s.rFlow ∧
    (recordTag t s).rScope = s.rScope ∧ (recordTag t s).rDlen = s.rDlen ∧ (recordTag t s).rName = s.rName ∧
    (recordTag t s).rPort = s.rPort ∧ (recordTag t s).rU16 = s.rU16 ∧ (recordTag t s).rU32 = s.rU32 ∧
    (recordTag t s).rLen = s.rLen ∧ (recordTag t s).rErr = s.rErr ∧ (recordTag t s).rErrArg = s.rErrArg ∧
    (recordTag t s).rIoCause = s.rIoCause ∧ (recordTag t s).rIoErr = s.rIoErr ∧ (recordTag t s).rRefuse = s.rRefuse ∧
    (recordTag t s).streamPos = s.streamPos ∧ (recordTag t s).host = s.host := by
  repeat' (first | exact rfl | refine ⟨rfl, ?_⟩)

/-- The fields after `recordHsHeader` (R451). -/
@[simp] theorem recordHsHeader_fields :
    (recordHsHeader s).rVer = s.gbyte 0 ∧ (recordHsHeader s).rNmeth = s.gbyte 1 ∧ (recordHsHeader s).cmd = s.cmd ∧
    (recordHsHeader s).opb0 = s.opb0 ∧ (recordHsHeader s).opb1 = s.opb1 ∧ (recordHsHeader s).opb2 = s.opb2 ∧
    (recordHsHeader s).opb3 = s.opb3 ∧ (recordHsHeader s).opn = s.opn ∧ (recordHsHeader s).op = s.op ∧
    (recordHsHeader s).allowDomain = s.allowDomain ∧ (recordHsHeader s).fsm = s.fsm ∧ (recordHsHeader s).phase = s.phase ∧
    (recordHsHeader s).rdReq = s.rdReq ∧ (recordHsHeader s).shutReq = s.shutReq ∧ (recordHsHeader s).shutWr = s.shutWr ∧
    (recordHsHeader s).need = s.need ∧ (recordHsHeader s).gcnt = s.gcnt ∧ (recordHsHeader s).gbuf = s.gbuf ∧
    (recordHsHeader s).consumed = s.consumed ∧ (recordHsHeader s).resStatus = s.resStatus ∧
    (recordHsHeader s).resKind = s.resKind ∧ (recordHsHeader s).resConsumed = s.resConsumed ∧
    (recordHsHeader s).rMethods = s.rMethods ∧ (recordHsHeader s).rCmd = s.rCmd ∧ (recordHsHeader s).rRsv = s.rRsv ∧
    (recordHsHeader s).rAtyp = s.rAtyp ∧ (recordHsHeader s).rIp4 = s.rIp4 ∧ (recordHsHeader s).rIp6 = s.rIp6 ∧
    (recordHsHeader s).rFlow = s.rFlow ∧ (recordHsHeader s).rScope = s.rScope ∧ (recordHsHeader s).rDlen = s.rDlen ∧
    (recordHsHeader s).rName = s.rName ∧ (recordHsHeader s).rPort = s.rPort ∧ (recordHsHeader s).rU16 = s.rU16 ∧
    (recordHsHeader s).rU32 = s.rU32 ∧ (recordHsHeader s).rLen = s.rLen ∧ (recordHsHeader s).rErr = s.rErr ∧
    (recordHsHeader s).rErrArg = s.rErrArg ∧ (recordHsHeader s).rIoCause = s.rIoCause ∧
    (recordHsHeader s).rIoErr = s.rIoErr ∧ (recordHsHeader s).rRefuse = s.rRefuse ∧
    (recordHsHeader s).streamPos = s.streamPos ∧ (recordHsHeader s).host = s.host := by
  repeat' (first | exact rfl | refine ⟨rfl, ?_⟩)

/-- The fields after `hsVersionMismatch` (R451). -/
@[simp] theorem hsVersionMismatch_fields :
    (hsVersionMismatch s).fsm = .hsShut ∧ (hsVersionMismatch s).shutReq = true ∧ (hsVersionMismatch s).rVer = s.gbyte 0 ∧
    (hsVersionMismatch s).rNmeth = s.gbyte 1 ∧ (hsVersionMismatch s).cmd = s.cmd ∧ (hsVersionMismatch s).opb0 = s.opb0 ∧
    (hsVersionMismatch s).opb1 = s.opb1 ∧ (hsVersionMismatch s).opb2 = s.opb2 ∧ (hsVersionMismatch s).opb3 = s.opb3 ∧
    (hsVersionMismatch s).opn = s.opn ∧ (hsVersionMismatch s).op = s.op ∧
    (hsVersionMismatch s).allowDomain = s.allowDomain ∧ (hsVersionMismatch s).phase = s.phase ∧
    (hsVersionMismatch s).rdReq = s.rdReq ∧ (hsVersionMismatch s).shutWr = s.shutWr ∧ (hsVersionMismatch s).need = s.need ∧
    (hsVersionMismatch s).gcnt = s.gcnt ∧ (hsVersionMismatch s).gbuf = s.gbuf ∧
    (hsVersionMismatch s).consumed = s.consumed ∧ (hsVersionMismatch s).resStatus = s.resStatus ∧
    (hsVersionMismatch s).resKind = s.resKind ∧ (hsVersionMismatch s).resConsumed = s.resConsumed ∧
    (hsVersionMismatch s).rMethods = s.rMethods ∧ (hsVersionMismatch s).rCmd = s.rCmd ∧
    (hsVersionMismatch s).rRsv = s.rRsv ∧ (hsVersionMismatch s).rAtyp = s.rAtyp ∧ (hsVersionMismatch s).rIp4 = s.rIp4 ∧
    (hsVersionMismatch s).rIp6 = s.rIp6 ∧ (hsVersionMismatch s).rFlow = s.rFlow ∧ (hsVersionMismatch s).rScope = s.rScope ∧
    (hsVersionMismatch s).rDlen = s.rDlen ∧ (hsVersionMismatch s).rName = s.rName ∧ (hsVersionMismatch s).rPort = s.rPort ∧
    (hsVersionMismatch s).rU16 = s.rU16 ∧ (hsVersionMismatch s).rU32 = s.rU32 ∧ (hsVersionMismatch s).rLen = s.rLen ∧
    (hsVersionMismatch s).rErr = s.rErr ∧ (hsVersionMismatch s).rErrArg = s.rErrArg ∧
    (hsVersionMismatch s).rIoCause = s.rIoCause ∧ (hsVersionMismatch s).rIoErr = s.rIoErr ∧
    (hsVersionMismatch s).rRefuse = s.rRefuse ∧ (hsVersionMismatch s).streamPos = s.streamPos ∧
    (hsVersionMismatch s).host = s.host := by
  repeat' (first | exact rfl | refine ⟨rfl, ?_⟩)

/-- The fields after `recordReqHeader` (R482). -/
@[simp] theorem recordReqHeader_fields :
    (recordReqHeader s).fsm = .adTag ∧ (recordReqHeader s).rdReq = true ∧ (recordReqHeader s).need = 1 ∧
    (recordReqHeader s).gcnt = 0 ∧ (recordReqHeader s).rVer = s.gbyte 0 ∧ (recordReqHeader s).rCmd = s.gbyte 1 ∧
    (recordReqHeader s).rRsv = s.gbyte 2 ∧ (recordReqHeader s).cmd = s.cmd ∧ (recordReqHeader s).opb0 = s.opb0 ∧
    (recordReqHeader s).opb1 = s.opb1 ∧ (recordReqHeader s).opb2 = s.opb2 ∧ (recordReqHeader s).opb3 = s.opb3 ∧
    (recordReqHeader s).opn = s.opn ∧ (recordReqHeader s).op = s.op ∧ (recordReqHeader s).allowDomain = s.allowDomain ∧
    (recordReqHeader s).phase = s.phase ∧ (recordReqHeader s).shutReq = s.shutReq ∧ (recordReqHeader s).shutWr = s.shutWr ∧
    (recordReqHeader s).gbuf = s.gbuf ∧ (recordReqHeader s).consumed = s.consumed ∧
    (recordReqHeader s).resStatus = s.resStatus ∧ (recordReqHeader s).resKind = s.resKind ∧
    (recordReqHeader s).resConsumed = s.resConsumed ∧ (recordReqHeader s).rNmeth = s.rNmeth ∧
    (recordReqHeader s).rMethods = s.rMethods ∧ (recordReqHeader s).rAtyp = s.rAtyp ∧ (recordReqHeader s).rIp4 = s.rIp4 ∧
    (recordReqHeader s).rIp6 = s.rIp6 ∧ (recordReqHeader s).rFlow = s.rFlow ∧ (recordReqHeader s).rScope = s.rScope ∧
    (recordReqHeader s).rDlen = s.rDlen ∧ (recordReqHeader s).rName = s.rName ∧ (recordReqHeader s).rPort = s.rPort ∧
    (recordReqHeader s).rU16 = s.rU16 ∧ (recordReqHeader s).rU32 = s.rU32 ∧ (recordReqHeader s).rLen = s.rLen ∧
    (recordReqHeader s).rErr = s.rErr ∧ (recordReqHeader s).rErrArg = s.rErrArg ∧
    (recordReqHeader s).rIoCause = s.rIoCause ∧ (recordReqHeader s).rIoErr = s.rIoErr ∧
    (recordReqHeader s).rRefuse = s.rRefuse ∧ (recordReqHeader s).streamPos = s.streamPos ∧ (recordReqHeader s).host = s.host := by
  repeat' (first | exact rfl | refine ⟨rfl, ?_⟩)

/-- The fields after `completeHsMeth` (R453). -/
@[simp] theorem completeHsMeth_fields :
    (completeHsMeth s).fsm = .none ∧ (completeHsMeth s).phase = .done ∧ (completeHsMeth s).rdReq = false ∧
    (completeHsMeth s).shutReq = false ∧ (completeHsMeth s).resStatus = .ok ∧ (completeHsMeth s).resKind = .handshake ∧
    (completeHsMeth s).resConsumed = s.consumed ∧ (completeHsMeth s).rMethods = copyGroup s s.rNmeth.toNat s.rMethods ∧
    (completeHsMeth s).cmd = s.cmd ∧ (completeHsMeth s).opb0 = s.opb0 ∧ (completeHsMeth s).opb1 = s.opb1 ∧
    (completeHsMeth s).opb2 = s.opb2 ∧ (completeHsMeth s).opb3 = s.opb3 ∧ (completeHsMeth s).opn = s.opn ∧
    (completeHsMeth s).op = s.op ∧ (completeHsMeth s).allowDomain = s.allowDomain ∧ (completeHsMeth s).shutWr = s.shutWr ∧
    (completeHsMeth s).need = s.need ∧ (completeHsMeth s).gcnt = s.gcnt ∧ (completeHsMeth s).gbuf = s.gbuf ∧
    (completeHsMeth s).consumed = s.consumed ∧ (completeHsMeth s).rVer = s.rVer ∧ (completeHsMeth s).rNmeth = s.rNmeth ∧
    (completeHsMeth s).rCmd = s.rCmd ∧ (completeHsMeth s).rRsv = s.rRsv ∧ (completeHsMeth s).rAtyp = s.rAtyp ∧
    (completeHsMeth s).rIp4 = s.rIp4 ∧ (completeHsMeth s).rIp6 = s.rIp6 ∧ (completeHsMeth s).rFlow = s.rFlow ∧
    (completeHsMeth s).rScope = s.rScope ∧ (completeHsMeth s).rDlen = s.rDlen ∧ (completeHsMeth s).rName = s.rName ∧
    (completeHsMeth s).rPort = s.rPort ∧ (completeHsMeth s).rU16 = s.rU16 ∧ (completeHsMeth s).rU32 = s.rU32 ∧
    (completeHsMeth s).rLen = s.rLen ∧ (completeHsMeth s).rErr = s.rErr ∧ (completeHsMeth s).rErrArg = s.rErrArg ∧
    (completeHsMeth s).rIoCause = s.rIoCause ∧ (completeHsMeth s).rIoErr = s.rIoErr ∧
    (completeHsMeth s).rRefuse = s.rRefuse ∧ (completeHsMeth s).streamPos = s.streamPos ∧ (completeHsMeth s).host = s.host := by
  repeat' (first | exact rfl | refine ⟨rfl, ?_⟩)

/-- The fields after `completeAdV6A` (R425). -/
@[simp] theorem completeAdV6A_fields :
    (completeAdV6A s).fsm = .adV6P ∧ (completeAdV6A s).rdReq = true ∧ (completeAdV6A s).need = 2 ∧
    (completeAdV6A s).gcnt = 0 ∧ (completeAdV6A s).rIp6 = copyGroup s 16 s.rIp6 ∧ (completeAdV6A s).cmd = s.cmd ∧
    (completeAdV6A s).opb0 = s.opb0 ∧ (completeAdV6A s).opb1 = s.opb1 ∧ (completeAdV6A s).opb2 = s.opb2 ∧
    (completeAdV6A s).opb3 = s.opb3 ∧ (completeAdV6A s).opn = s.opn ∧ (completeAdV6A s).op = s.op ∧
    (completeAdV6A s).allowDomain = s.allowDomain ∧ (completeAdV6A s).phase = s.phase ∧
    (completeAdV6A s).shutReq = s.shutReq ∧ (completeAdV6A s).shutWr = s.shutWr ∧ (completeAdV6A s).gbuf = s.gbuf ∧
    (completeAdV6A s).consumed = s.consumed ∧ (completeAdV6A s).resStatus = s.resStatus ∧
    (completeAdV6A s).resKind = s.resKind ∧ (completeAdV6A s).resConsumed = s.resConsumed ∧
    (completeAdV6A s).rVer = s.rVer ∧ (completeAdV6A s).rNmeth = s.rNmeth ∧ (completeAdV6A s).rMethods = s.rMethods ∧
    (completeAdV6A s).rCmd = s.rCmd ∧ (completeAdV6A s).rRsv = s.rRsv ∧ (completeAdV6A s).rAtyp = s.rAtyp ∧
    (completeAdV6A s).rIp4 = s.rIp4 ∧ (completeAdV6A s).rFlow = s.rFlow ∧ (completeAdV6A s).rScope = s.rScope ∧
    (completeAdV6A s).rDlen = s.rDlen ∧ (completeAdV6A s).rName = s.rName ∧ (completeAdV6A s).rPort = s.rPort ∧
    (completeAdV6A s).rU16 = s.rU16 ∧ (completeAdV6A s).rU32 = s.rU32 ∧ (completeAdV6A s).rLen = s.rLen ∧
    (completeAdV6A s).rErr = s.rErr ∧ (completeAdV6A s).rErrArg = s.rErrArg ∧ (completeAdV6A s).rIoCause = s.rIoCause ∧
    (completeAdV6A s).rIoErr = s.rIoErr ∧ (completeAdV6A s).rRefuse = s.rRefuse ∧
    (completeAdV6A s).streamPos = s.streamPos ∧ (completeAdV6A s).host = s.host := by
  repeat' (first | exact rfl | refine ⟨rfl, ?_⟩)

/-- The fields after `completeAdDlen` (R427). -/
@[simp] theorem completeAdDlen_fields :
    (completeAdDlen s).fsm = .adDbody ∧ (completeAdDlen s).rdReq = true ∧
    (completeAdDlen s).need = (s.gbyte 0).zeroExtend 9 + 2 ∧ (completeAdDlen s).gcnt = 0 ∧
    (completeAdDlen s).rDlen = s.gbyte 0 ∧ (completeAdDlen s).cmd = s.cmd ∧ (completeAdDlen s).opb0 = s.opb0 ∧
    (completeAdDlen s).opb1 = s.opb1 ∧ (completeAdDlen s).opb2 = s.opb2 ∧ (completeAdDlen s).opb3 = s.opb3 ∧
    (completeAdDlen s).opn = s.opn ∧ (completeAdDlen s).op = s.op ∧ (completeAdDlen s).allowDomain = s.allowDomain ∧
    (completeAdDlen s).phase = s.phase ∧ (completeAdDlen s).shutReq = s.shutReq ∧ (completeAdDlen s).shutWr = s.shutWr ∧
    (completeAdDlen s).gbuf = s.gbuf ∧ (completeAdDlen s).consumed = s.consumed ∧
    (completeAdDlen s).resStatus = s.resStatus ∧ (completeAdDlen s).resKind = s.resKind ∧
    (completeAdDlen s).resConsumed = s.resConsumed ∧ (completeAdDlen s).rVer = s.rVer ∧
    (completeAdDlen s).rNmeth = s.rNmeth ∧ (completeAdDlen s).rMethods = s.rMethods ∧ (completeAdDlen s).rCmd = s.rCmd ∧
    (completeAdDlen s).rRsv = s.rRsv ∧ (completeAdDlen s).rAtyp = s.rAtyp ∧ (completeAdDlen s).rIp4 = s.rIp4 ∧
    (completeAdDlen s).rIp6 = s.rIp6 ∧ (completeAdDlen s).rFlow = s.rFlow ∧ (completeAdDlen s).rScope = s.rScope ∧
    (completeAdDlen s).rName = s.rName ∧ (completeAdDlen s).rPort = s.rPort ∧ (completeAdDlen s).rU16 = s.rU16 ∧
    (completeAdDlen s).rU32 = s.rU32 ∧ (completeAdDlen s).rLen = s.rLen ∧ (completeAdDlen s).rErr = s.rErr ∧
    (completeAdDlen s).rErrArg = s.rErrArg ∧ (completeAdDlen s).rIoCause = s.rIoCause ∧
    (completeAdDlen s).rIoErr = s.rIoErr ∧ (completeAdDlen s).rRefuse = s.rRefuse ∧
    (completeAdDlen s).streamPos = s.streamPos ∧ (completeAdDlen s).host = s.host := by
  repeat' (first | exact rfl | refine ⟨rfl, ?_⟩)

/-- `AddrDone()` as one record: only the kind of result depends on the operation (R423). -/
theorem addrDone_eq : addrDone s = finish (if s.op = 0x4 then .request else .address) s := by
  unfold addrDone
  split <;> rfl

/-- The fields after `addrDone` (R423). -/
@[simp] theorem addrDone_fields :
    (addrDone s).fsm = .none ∧ (addrDone s).phase = .done ∧ (addrDone s).rdReq = false ∧ (addrDone s).shutReq = false ∧
    (addrDone s).resStatus = .ok ∧ (addrDone s).resKind = (if s.op = 0x4 then Kind.request else Kind.address) ∧
    (addrDone s).resConsumed = s.consumed ∧ (addrDone s).cmd = s.cmd ∧ (addrDone s).opb0 = s.opb0 ∧
    (addrDone s).opb1 = s.opb1 ∧ (addrDone s).opb2 = s.opb2 ∧ (addrDone s).opb3 = s.opb3 ∧ (addrDone s).opn = s.opn ∧
    (addrDone s).op = s.op ∧ (addrDone s).allowDomain = s.allowDomain ∧ (addrDone s).shutWr = s.shutWr ∧
    (addrDone s).need = s.need ∧ (addrDone s).gcnt = s.gcnt ∧ (addrDone s).gbuf = s.gbuf ∧
    (addrDone s).consumed = s.consumed ∧ (addrDone s).rVer = s.rVer ∧ (addrDone s).rNmeth = s.rNmeth ∧
    (addrDone s).rMethods = s.rMethods ∧ (addrDone s).rCmd = s.rCmd ∧ (addrDone s).rRsv = s.rRsv ∧
    (addrDone s).rAtyp = s.rAtyp ∧ (addrDone s).rIp4 = s.rIp4 ∧ (addrDone s).rIp6 = s.rIp6 ∧ (addrDone s).rFlow = s.rFlow ∧
    (addrDone s).rScope = s.rScope ∧ (addrDone s).rDlen = s.rDlen ∧ (addrDone s).rName = s.rName ∧
    (addrDone s).rPort = s.rPort ∧ (addrDone s).rU16 = s.rU16 ∧ (addrDone s).rU32 = s.rU32 ∧ (addrDone s).rLen = s.rLen ∧
    (addrDone s).rErr = s.rErr ∧ (addrDone s).rErrArg = s.rErrArg ∧ (addrDone s).rIoCause = s.rIoCause ∧
    (addrDone s).rIoErr = s.rIoErr ∧ (addrDone s).rRefuse = s.rRefuse ∧ (addrDone s).streamPos = s.streamPos ∧
    (addrDone s).host = s.host := by
  simp only [addrDone_eq]
  repeat' (first | exact rfl | refine ⟨rfl, ?_⟩)

/-- The fields after `completeAdV4` (R424). -/
@[simp] theorem completeAdV4_fields :
    (completeAdV4 s).fsm = .none ∧ (completeAdV4 s).phase = .done ∧ (completeAdV4 s).rdReq = false ∧
    (completeAdV4 s).shutReq = false ∧ (completeAdV4 s).resStatus = .ok ∧
    (completeAdV4 s).resKind = (if s.op = 0x4 then Kind.request else Kind.address) ∧ (completeAdV4 s).resConsumed = s.consumed ∧
    (completeAdV4 s).rIp4 = copyGroup s 4 s.rIp4 ∧ (completeAdV4 s).rPort = be16 (s.gbyte 4) (s.gbyte 5) ∧
    (completeAdV4 s).cmd = s.cmd ∧ (completeAdV4 s).opb0 = s.opb0 ∧ (completeAdV4 s).opb1 = s.opb1 ∧
    (completeAdV4 s).opb2 = s.opb2 ∧ (completeAdV4 s).opb3 = s.opb3 ∧ (completeAdV4 s).opn = s.opn ∧
    (completeAdV4 s).op = s.op ∧ (completeAdV4 s).allowDomain = s.allowDomain ∧ (completeAdV4 s).shutWr = s.shutWr ∧
    (completeAdV4 s).need = s.need ∧ (completeAdV4 s).gcnt = s.gcnt ∧ (completeAdV4 s).gbuf = s.gbuf ∧
    (completeAdV4 s).consumed = s.consumed ∧ (completeAdV4 s).rVer = s.rVer ∧ (completeAdV4 s).rNmeth = s.rNmeth ∧
    (completeAdV4 s).rMethods = s.rMethods ∧ (completeAdV4 s).rCmd = s.rCmd ∧ (completeAdV4 s).rRsv = s.rRsv ∧
    (completeAdV4 s).rAtyp = s.rAtyp ∧ (completeAdV4 s).rIp6 = s.rIp6 ∧ (completeAdV4 s).rFlow = s.rFlow ∧
    (completeAdV4 s).rScope = s.rScope ∧ (completeAdV4 s).rDlen = s.rDlen ∧ (completeAdV4 s).rName = s.rName ∧
    (completeAdV4 s).rU16 = s.rU16 ∧ (completeAdV4 s).rU32 = s.rU32 ∧ (completeAdV4 s).rLen = s.rLen ∧
    (completeAdV4 s).rErr = s.rErr ∧ (completeAdV4 s).rErrArg = s.rErrArg ∧ (completeAdV4 s).rIoCause = s.rIoCause ∧
    (completeAdV4 s).rIoErr = s.rIoErr ∧ (completeAdV4 s).rRefuse = s.rRefuse ∧ (completeAdV4 s).streamPos = s.streamPos ∧
    (completeAdV4 s).host = s.host := by
  simp only [completeAdV4, addrDone_eq]
  repeat' (first | exact rfl | refine ⟨rfl, ?_⟩)

/-- The fields after `completeAdV6P` (R425). -/
@[simp] theorem completeAdV6P_fields :
    (completeAdV6P s).fsm = .none ∧ (completeAdV6P s).phase = .done ∧ (completeAdV6P s).rdReq = false ∧
    (completeAdV6P s).shutReq = false ∧ (completeAdV6P s).resStatus = .ok ∧
    (completeAdV6P s).resKind = (if s.op = 0x4 then Kind.request else Kind.address) ∧ (completeAdV6P s).resConsumed = s.consumed ∧
    (completeAdV6P s).rFlow = 0 ∧ (completeAdV6P s).rScope = 0 ∧ (completeAdV6P s).rPort = be16 (s.gbyte 0) (s.gbyte 1) ∧
    (completeAdV6P s).cmd = s.cmd ∧ (completeAdV6P s).opb0 = s.opb0 ∧ (completeAdV6P s).opb1 = s.opb1 ∧
    (completeAdV6P s).opb2 = s.opb2 ∧ (completeAdV6P s).opb3 = s.opb3 ∧ (completeAdV6P s).opn = s.opn ∧
    (completeAdV6P s).op = s.op ∧ (completeAdV6P s).allowDomain = s.allowDomain ∧ (completeAdV6P s).shutWr = s.shutWr ∧
    (completeAdV6P s).need = s.need ∧ (completeAdV6P s).gcnt = s.gcnt ∧ (completeAdV6P s).gbuf = s.gbuf ∧
    (completeAdV6P s).consumed = s.consumed ∧ (completeAdV6P s).rVer = s.rVer ∧ (completeAdV6P s).rNmeth = s.rNmeth ∧
    (completeAdV6P s).rMethods = s.rMethods ∧ (completeAdV6P s).rCmd = s.rCmd ∧ (completeAdV6P s).rRsv = s.rRsv ∧
    (completeAdV6P s).rAtyp = s.rAtyp ∧ (completeAdV6P s).rIp4 = s.rIp4 ∧ (completeAdV6P s).rIp6 = s.rIp6 ∧
    (completeAdV6P s).rDlen = s.rDlen ∧ (completeAdV6P s).rName = s.rName ∧ (completeAdV6P s).rU16 = s.rU16 ∧
    (completeAdV6P s).rU32 = s.rU32 ∧ (completeAdV6P s).rLen = s.rLen ∧ (completeAdV6P s).rErr = s.rErr ∧
    (completeAdV6P s).rErrArg = s.rErrArg ∧ (completeAdV6P s).rIoCause = s.rIoCause ∧ (completeAdV6P s).rIoErr = s.rIoErr ∧
    (completeAdV6P s).rRefuse = s.rRefuse ∧ (completeAdV6P s).streamPos = s.streamPos ∧ (completeAdV6P s).host = s.host := by
  simp only [completeAdV6P, addrDone_eq]
  repeat' (first | exact rfl | refine ⟨rfl, ?_⟩)

/-- The fields after `completeAdDbody` (R428). -/
@[simp] theorem completeAdDbody_fields :
    (completeAdDbody s).fsm = .none ∧ (completeAdDbody s).phase = .done ∧ (completeAdDbody s).rdReq = false ∧
    (completeAdDbody s).shutReq = false ∧ (completeAdDbody s).resStatus = .ok ∧
    (completeAdDbody s).resKind = (if s.op = 0x4 then Kind.request else Kind.address) ∧ (completeAdDbody s).resConsumed = s.consumed ∧
    (completeAdDbody s).rName = copyGroup s s.rDlen.toNat s.rName ∧
    (completeAdDbody s).rPort = be16 (s.gbyte s.rDlen.toNat) (s.gbyte (s.rDlen.toNat + 1)) ∧
    (completeAdDbody s).cmd = s.cmd ∧ (completeAdDbody s).opb0 = s.opb0 ∧ (completeAdDbody s).opb1 = s.opb1 ∧
    (completeAdDbody s).opb2 = s.opb2 ∧ (completeAdDbody s).opb3 = s.opb3 ∧ (completeAdDbody s).opn = s.opn ∧
    (completeAdDbody s).op = s.op ∧ (completeAdDbody s).allowDomain = s.allowDomain ∧
    (completeAdDbody s).shutWr = s.shutWr ∧ (completeAdDbody s).need = s.need ∧ (completeAdDbody s).gcnt = s.gcnt ∧
    (completeAdDbody s).gbuf = s.gbuf ∧ (completeAdDbody s).consumed = s.consumed ∧ (completeAdDbody s).rVer = s.rVer ∧
    (completeAdDbody s).rNmeth = s.rNmeth ∧ (completeAdDbody s).rMethods = s.rMethods ∧ (completeAdDbody s).rCmd = s.rCmd ∧
    (completeAdDbody s).rRsv = s.rRsv ∧ (completeAdDbody s).rAtyp = s.rAtyp ∧ (completeAdDbody s).rIp4 = s.rIp4 ∧
    (completeAdDbody s).rIp6 = s.rIp6 ∧ (completeAdDbody s).rFlow = s.rFlow ∧ (completeAdDbody s).rScope = s.rScope ∧
    (completeAdDbody s).rDlen = s.rDlen ∧ (completeAdDbody s).rU16 = s.rU16 ∧ (completeAdDbody s).rU32 = s.rU32 ∧
    (completeAdDbody s).rLen = s.rLen ∧ (completeAdDbody s).rErr = s.rErr ∧ (completeAdDbody s).rErrArg = s.rErrArg ∧
    (completeAdDbody s).rIoCause = s.rIoCause ∧ (completeAdDbody s).rIoErr = s.rIoErr ∧
    (completeAdDbody s).rRefuse = s.rRefuse ∧ (completeAdDbody s).streamPos = s.streamPos ∧ (completeAdDbody s).host = s.host := by
  simp only [completeAdDbody, addrDone_eq]
  repeat' (first | exact rfl | refine ⟨rfl, ?_⟩)

end Sys2Proof.Machine
end

