-- ==== Sys2Proof/Laws/Ops.lean ====
section
/-! SUPPORT. One lemma per shared operation, saying once everything it can do: guards, groups, the buffer, completions, events and
the step. Proofs cite these and do not unfold the operations. -/

namespace Sys2Proof.Machine

variable {s t u : State}

/-! ## Guards -/

theorem whenIdle_idle (h : s.phase = .idle) : whenIdle s t = .next t := if_pos h

theorem whenIdle_not_idle (h : s.phase ≠ .idle) : whenIdle s t = .fault .notEnabled := if_neg h

/-- Everything a command's guard can answer. -/
theorem whenIdle_next (h : whenIdle s t = .next u) : s.phase = .idle ∧ u = t := by
  unfold whenIdle at h
  split at h
  · exact ⟨‹_›, by simpa using h.symm⟩
  · simp at h

theorem whenDispatched_ready {f : Fsm} {i : Nat} {b : Byte} (hf : s.fsm = f) (hn : s.need = 0) (hb : s.gbyte i = b) :
    whenDispatched f i b s t = .next t := if_pos ⟨hf, hn, hb⟩

/-- Everything a dispatch row's guard can answer. -/
theorem whenDispatched_next {f : Fsm} {i : Nat} {b : Byte} (h : whenDispatched f i b s t = .next u) :
    (s.fsm = f ∧ s.need = 0 ∧ s.gbyte i = b) ∧ u = t := by
  unfold whenDispatched at h
  split at h
  · exact ⟨‹_›, by simpa using h.symm⟩
  · simp at h

/-! ## Read groups -/

theorem enterOrComplete_pos {f : Fsm} {n : BitVec 9} {c : State → State} (h : n ≠ 0) :
    enterOrComplete f n c s = enter f n s := if_neg h

theorem enterOrComplete_zero {f : Fsm} {c : State → State} :
    enterOrComplete f 0 c s = c (enterEmpty f s) := if_pos rfl

/-- Where byte `i` of the buffer comes from after one more byte. -/
theorem gbyte_takeByte (b : Byte) (i : Nat) (h : s.gcnt.toNat < Config.gbufDepth) :
    (takeByte b s).gbyte i = if i = s.gcnt.toNat then b else s.gbyte i := by
  simp only [State.gbyte, takeByte_fields, Vector.getElem?_setIfInBounds]
  by_cases hi : s.gcnt.toNat = i
  · subst hi; simp [h]
  · simp [hi, Ne.symm hi]

@[simp] theorem gbyte_closeGroup (i : Nat) : (closeGroup s).gbyte i = s.gbyte i := rfl

@[simp] theorem gbyte_withHost (events : List Event) (i : Nat) : (withHost events s).gbyte i = s.gbyte i := rfl

/-- Each element of a copied array: the group's byte below `k`, its old value from `k` on. -/
theorem copyGroup_get {m : Nat} (k : Nat) (dst : Vector Byte m) (i : Nat) (h : i < m) :
    (copyGroup s k dst)[i] = if i < k then s.gbyte i else dst[i] := by
  simp [copyGroup]

theorem copyGroup_zero {m : Nat} (dst : Vector Byte m) : copyGroup s 0 dst = dst := by
  ext i h
  simp [copyGroup]

/-! ## Events and steps -/

theorem onEvent_enabled {e : Event} (h : enabled e s = true) : onEvent e s = handle e s := if_pos h

theorem onEvent_not_enabled {e : Event} (h : enabled e s = false) : onEvent e s = .fault .notEnabled := by
  simp [onEvent, h]

/-- An event that answers a next state was enabled, and was handled. -/
theorem onEvent_next {e : Event} (h : onEvent e s = .next t) : enabled e s = true ∧ handle e s = .next t := by
  unfold onEvent at h
  split at h
  · exact ⟨‹_›, h⟩
  · simp at h

theorem onByte_more {b : Byte} (h : s.need ≠ 1) : onByte b s = .next (takeByte b s) := by
  have hn : (takeByte b s).need ≠ 0 := by
    simp only [takeByte_fields]
    bv_omega
  exact if_neg hn

theorem onByte_last {b : Byte} (h : s.need = 1) : onByte b s = complete (closeGroup (takeByte b s)) := by
  have hn : (takeByte b s).need = 0 := by simp [h]
  exact if_pos hn

theorem step_nil (h : s.host = []) : step s = .fault .noEvent := by
  simp [step, nextEvent, h]

theorem step_cons {e : Event} {rest : List Event} (h : s.host = e :: rest) : step s = onEvent e (withHost rest s) := by
  simp [step, nextEvent, h]

/-- Everything a step that answers a next state can be: one enabled event, handled. -/
theorem step_next (h : step s = .next t) :
    ∃ (e : Event) (rest : List Event), s.host = e :: rest ∧ enabled e (withHost rest s) = true ∧
      handle e (withHost rest s) = .next t := by
  cases hh : s.host with
  | nil => simp [step_nil hh] at h
  | cons e rest =>
    rw [step_cons hh] at h
    obtain ⟨he, hd⟩ := onEvent_next h
    exact ⟨e, rest, rfl, he, hd⟩

/-! ## Completions -/

/-- Everything the version row of the handshake can answer. -/
theorem execHsVer_next (h : execHsVer s = .next t) :
    (s.fsm = .hsHdr ∧ s.need = 0 ∧ s.gbyte 0 = Config.supportedVer) ∧
      t = enterOrComplete .hsMeth ((s.gbyte 1).zeroExtend 9) completeHsMeth (recordHsHeader s) := whenDispatched_next h

/-- Everything a command row can answer. -/
theorem whenCommand_next {c : Byte} (h : whenCommand c s t = .next u) :
    s.gbyte 0 = Config.supportedVer ∧ (s.fsm = .rqHdr ∧ s.need = 0 ∧ s.gbyte 1 = c) ∧ u = t := by
  unfold whenCommand at h
  split at h
  · exact ⟨‹_›, whenDispatched_next h⟩
  · simp at h

/-- Everything the command check can answer: the header recorded, or the unknown command. -/
theorem dispatchCommand_next (h : dispatchCommand s = .next t) :
    (s.gbyte 0 = Config.supportedVer ∧ (s.gbyte 1 = 0x01 ∨ s.gbyte 1 = 0x02 ∨ s.gbyte 1 = 0x03) ∧ t = recordReqHeader s) ∨
      ((s.gbyte 1 ≠ 0x01 ∧ s.gbyte 1 ≠ 0x02 ∧ s.gbyte 1 ≠ 0x03) ∧ t = reqCommandUnknown s) := by
  unfold dispatchCommand at h
  split at h
  · obtain ⟨h0, ⟨-, -, h1⟩, ht⟩ := whenCommand_next h
    exact .inl ⟨h0, .inl h1, ht⟩
  split at h
  · obtain ⟨h0, ⟨-, -, h1⟩, ht⟩ := whenCommand_next h
    exact .inl ⟨h0, .inr (.inl h1), ht⟩
  split at h
  · obtain ⟨h0, ⟨-, -, h1⟩, ht⟩ := whenCommand_next h
    exact .inl ⟨h0, .inr (.inr h1), ht⟩
  · exact .inr ⟨⟨‹_›, ‹_›, ‹_›⟩, by simpa using h.symm⟩

/-- Everything a completion can answer, by decoder state. -/
theorem complete_next (h : complete s = .next t) :
    (s.fsm = .hsHdr ∧ s.gbyte 0 = Config.supportedVer ∧
      t = enterOrComplete .hsMeth ((s.gbyte 1).zeroExtend 9) completeHsMeth (recordHsHeader s)) ∨
    (s.fsm = .hsHdr ∧ s.gbyte 0 ≠ Config.supportedVer ∧ t = hsVersionMismatch s) ∨
    (s.fsm = .rqHdr ∧ s.gbyte 0 = Config.supportedVer ∧ (s.gbyte 1 = 0x01 ∨ s.gbyte 1 = 0x02 ∨ s.gbyte 1 = 0x03) ∧
      t = recordReqHeader s) ∨
    (s.fsm = .rqHdr ∧ (s.gbyte 1 ≠ 0x01 ∧ s.gbyte 1 ≠ 0x02 ∧ s.gbyte 1 ≠ 0x03) ∧ t = reqCommandUnknown s) ∨
    (s.fsm = .rqHdr ∧ s.gbyte 0 ≠ Config.supportedVer ∧ t = reqVersionMismatch s) ∨
    (s.fsm = .adTag ∧ s.gbyte 0 = 0x01 ∧ t = enter .adV4 6 (recordTag 0x01 s)) ∨
    (s.fsm = .adTag ∧ s.gbyte 0 = 0x04 ∧ t = enter .adV6A 16 (recordTag 0x04 s)) ∨
    (s.fsm = .adTag ∧ s.gbyte 0 = 0x03 ∧ s.allowDomain = true ∧ t = enter .adDlen 1 (recordTag 0x03 s)) ∨
    (s.fsm = .adTag ∧ s.gbyte 0 = 0x03 ∧ s.allowDomain = false ∧
      t = raise (.addressTypeNotSupported 0x03) (recordTag 0x03 s)) ∨
    (s.fsm = .adTag ∧ (s.gbyte 0 ≠ 0x01 ∧ s.gbyte 0 ≠ 0x03 ∧ s.gbyte 0 ≠ 0x04) ∧ t = adTagUnknown s) ∨
    (s.fsm = .hsMeth ∧ t = completeHsMeth s) ∨ (s.fsm = .adV4 ∧ t = completeAdV4 s) ∨
    (s.fsm = .adV6A ∧ t = completeAdV6A s) ∨ (s.fsm = .adV6P ∧ t = completeAdV6P s) ∨
    (s.fsm = .adDlen ∧ t = completeAdDlen s) ∨ (s.fsm = .adDbody ∧ t = completeAdDbody s) := by
  unfold complete at h
  cases hf : s.fsm <;> simp only [hf] at h
  case none => simp at h
  case hsShut => simp at h
  case hsHdr =>
    simp only [decodeAt, decodeHsVer] at h
    by_cases hv : s.gbyte 0 = Config.supportedVer
    · simp only [hv, if_true] at h
      have := execHsVer_next h
      simp_all
    · simp only [hv, if_false] at h
      simp_all
  case rqHdr =>
    simp only [decodeAt, decodeReqVer] at h
    by_cases hv : s.gbyte 0 = Config.supportedVer
    · simp only [hv, if_true, exec, execReqVer] at h
      split at h
      · have := dispatchCommand_next h
        simp_all
      · simp at h
    · simp only [hv, if_false] at h
      simp_all
  case adTag =>
    simp only [decodeAt, decodeAtyp] at h
    by_cases h1 : s.gbyte 0 = 0x01
    · simp only [h1, if_true] at h
      have := whenDispatched_next h
      simp_all
    by_cases h3 : s.gbyte 0 = 0x03
    · rw [if_neg h1, if_pos h3] at h
      obtain ⟨-, rfl⟩ := whenDispatched_next h
      by_cases ha : s.allowDomain = true
      · simp [ha, h3]
      · simp only [Bool.not_eq_true] at ha
        simp [ha, h3]
    by_cases h4 : s.gbyte 0 = 0x04
    · rw [if_neg h1, if_neg h3, if_pos h4] at h
      have := whenDispatched_next h
      simp_all
    · simp only [h1, h3, h4, if_false] at h
      simp_all
  all_goals simp_all

end Sys2Proof.Machine
end

