-- ==== Sys2Proof/Laws/PerInstr.lean ====
section
/-! SUPPORT. Statements for every instruction, one lemma per constructor. Family ReservedWords: among the host command rows, the
reserved ones are exactly those whose word meets R320's test (a nonzero high half, or a low half of 0 or of 9 and above). -/

namespace Sys2Proof.Laws.ReservedWords

/-- The row is one of the RESERVED rows (R330). -/
def isReserved : Instr → Bool
  | .reserved00 | .reserved09 => true
  | .reserved0A _ | .reserved0C _ | .reserved10 _ | .reserved20 _ | .reserved40 _ | .reserved80 _ => true
  | .hs | .addr | .saddr | .req | .rd16 | .rd32 | .alen | .rlen => false
  | .hsVer | .reqVer | .reqCmdConnect | .reqCmdBind | .reqCmdUdpAssociate => false
  | .atypIpv4 | .atypDomain | .atypIpv6 => false

/-- R320's test of a command word. -/
def wordRefused (w : Byte) : Bool := w &&& 0xF0 != 0 || w &&& 0x0F == 0 || 9 ≤ (w &&& 0x0F).toNat

/-- A command row is reserved exactly when its word is refused (R320, R330); a wire row is never reserved. -/
def Statement (i : Instr) : Prop :=
  WellFormed i = true → isReserved i = (place i == .hostCmd && wordRefused (encode i))

theorem hs : Statement .hs := by unfold Statement; decide

theorem addr : Statement .addr := by unfold Statement; decide

theorem saddr : Statement .saddr := by unfold Statement; decide

theorem req : Statement .req := by unfold Statement; decide

theorem rd16 : Statement .rd16 := by unfold Statement; decide

theorem rd32 : Statement .rd32 := by unfold Statement; decide

theorem alen : Statement .alen := by unfold Statement; decide

theorem rlen : Statement .rlen := by unfold Statement; decide

theorem hsVer : Statement .hsVer := by unfold Statement; decide

theorem reqVer : Statement .reqVer := by unfold Statement; decide

theorem reqCmdConnect : Statement .reqCmdConnect := by unfold Statement; decide

theorem reqCmdBind : Statement .reqCmdBind := by unfold Statement; decide

theorem reqCmdUdpAssociate : Statement .reqCmdUdpAssociate := by unfold Statement; decide

theorem atypIpv4 : Statement .atypIpv4 := by unfold Statement; decide

theorem atypDomain : Statement .atypDomain := by unfold Statement; decide

theorem atypIpv6 : Statement .atypIpv6 := by unfold Statement; decide

theorem reserved00 : Statement .reserved00 := by unfold Statement; decide

theorem reserved09 : Statement .reserved09 := by unfold Statement; decide

theorem reserved0A (w : Byte) : Statement (.reserved0A w) := by
  unfold Statement; revert w; decide +kernel

theorem reserved0C (w : Byte) : Statement (.reserved0C w) := by
  unfold Statement; revert w; decide +kernel

theorem reserved10 (w : Byte) : Statement (.reserved10 w) := by
  unfold Statement; revert w; decide +kernel

theorem reserved20 (w : Byte) : Statement (.reserved20 w) := by
  unfold Statement; revert w; decide +kernel

theorem reserved40 (w : Byte) : Statement (.reserved40 w) := by
  unfold Statement; revert w; decide +kernel

theorem reserved80 (w : Byte) : Statement (.reserved80 w) := by
  unfold Statement; revert w; decide +kernel

end Sys2Proof.Laws.ReservedWords
end

