-- ==== Sys2Proof/Laws/Run.lean ====
section
/-! SUPPORT. Runs of the machine (Safety.Reaches), and what the big-endian readers compute (R400, R401). -/

namespace Sys2Proof.Machine

variable {s t u : State}

theorem reaches_refl (s : State) : Reaches s s := ⟨0, rfl⟩

/-- One more step at the front of a run. -/
theorem run_succ (n : Nat) (h : step s = .next t) :
    Host.Core.run Sys2Proof.core (n + 1) s = Host.Core.run Sys2Proof.core n t := by
  have hs : Host.Core.step Sys2Proof.core s = .next t := h
  simp only [Host.Core.run, hs]

theorem reaches_step (h : step s = .next t) (ht : Reaches t u) : Reaches s u := by
  obtain ⟨n, hn⟩ := ht
  exact ⟨n + 1, (run_succ n h).trans hn⟩

theorem reachesNoMove_step (h : step s = .next t) (ht : ReachesNoMove t) : ReachesNoMove s := by
  obtain ⟨n, hn⟩ := ht
  exact ⟨n + 1, (run_succ n h).trans hn⟩

theorem run_add (m n : Nat) : ∀ s t : State, Host.Core.run Sys2Proof.core m s = .next t →
    Host.Core.run Sys2Proof.core (m + n) s = Host.Core.run Sys2Proof.core n t := by
  induction m with
  | zero =>
    intro s t h
    injection h with h
    rw [Nat.zero_add, h]
  | succ m ih =>
    intro s t h
    rw [Nat.add_right_comm]
    simp only [Host.Core.run] at h ⊢
    cases hs : Host.Core.step Sys2Proof.core s with
    | next v =>
      simp only [hs] at h ⊢
      exact ih v t h
    | fault r => simp only [hs] at h; cases h
    | refused r => simp only [hs] at h; cases h

theorem reaches_trans (h : Reaches s t) (h' : Reaches t u) : Reaches s u := by
  obtain ⟨m, hm⟩ := h
  obtain ⟨n, hn⟩ := h'
  exact ⟨m + n, (run_add m n s t hm).trans hn⟩

theorem be16_toNat (b0 b1 : Byte) : (be16 b0 b1).toNat = b0.toNat * 256 + b1.toNat := by
  have h1 := b1.isLt
  simp only [be16]
  rw [BitVec.toNat_append, Nat.shiftLeft_eq, Nat.mul_comm _ (2 ^ 8), ← Nat.two_pow_add_eq_or_of_lt (by omega)]

theorem be32_toNat (b0 b1 b2 b3 : Byte) :
    (be32 b0 b1 b2 b3).toNat = b0.toNat * 2 ^ 24 + b1.toNat * 2 ^ 16 + b2.toNat * 2 ^ 8 + b3.toNat := by
  have h1 := b1.isLt
  have h2 := b2.isLt
  have h3 := b3.isLt
  simp only [be32, BitVec.toNat_append, Nat.shiftLeft_eq]
  rw [Nat.mul_comm b0.toNat, ← Nat.two_pow_add_eq_or_of_lt (by omega), Nat.mul_comm _ (2 ^ 8),
    ← Nat.two_pow_add_eq_or_of_lt (by omega), Nat.mul_comm _ (2 ^ 8), ← Nat.two_pow_add_eq_or_of_lt (by omega)]
  omega

end Sys2Proof.Machine
end

