-- ==== Sys2Proof/Laws/Sound.lean ====
section
/-! SUPPORT. When the named operations leave a sound state (Safety.Sound): an idle block, an open group, and the three ways an
operation ends. Proofs that a step keeps soundness cite these, one per branch. And the fields of a state whose native errors are
renamed. -/

namespace Sys2Proof.Machine

variable {s : State}

/-- An idle block with its operation registers clear is sound. -/
theorem sound_idle (hp : s.phase = .idle) (hr : s.rdReq = false) (hs : s.shutReq = false) (hf : s.fsm = .none)
    (hc : s.op = 0 ∧ s.allowDomain = false ∧ s.need = 0 ∧ s.gcnt = 0 ∧ s.consumed = 0) (hst : s.resStatus = .none)
    (hk : s.resKind = .none) : Sound s := by
  refine ⟨⟨?_, ?_, ?_, ?_⟩, ⟨?_, ?_⟩, ⟨?_, ?_, ?_, ?_, ?_, ?_, ?_⟩, ⟨?_, ?_, ?_, ?_⟩, ⟨?_, ?_, ?_, ?_, ?_, ?_⟩,
    ⟨?_, ?_, ?_, ?_, ?_⟩⟩
  all_goals simp [Fsm.inHandshake, Fsm.inAddress, *]

/-- A busy block with an open read group of its state's size is sound. -/
theorem sound_open (hp : s.phase = .busy) (hr : s.rdReq = true) (hs : s.shutReq = false) (hn : 0 < s.need.toNat)
    (hf : s.fsm ≠ .none) (hf' : s.fsm ≠ .hsShut) (hop : OpOk s) (hsz : s.gcnt.toNat + s.need.toNat = groupSize s)
    (hc : s.consumed.toNat = groupBase s + s.gcnt.toNat) (hb : s.consumed.toNat ≤ 262) (hh : HeaderOk s)
    (hst : s.resStatus = .none) (hk : s.resKind = .none) : Sound s := by
  refine ⟨⟨?_, ?_, ?_, ?_⟩, ⟨?_, ?_⟩, hop, ⟨?_, ?_, ?_, hb⟩, hh, ⟨?_, ?_, ?_, ?_, ?_⟩⟩
  all_goals simp [*]

/-- Which errors which operation can end with (R600, R630). -/
def raiseFits (k : Err) (op : BitVec 4) (shutWr : Bool) : Prop :=
  (∃ v, k = .socksVersionNoSupport v ∧ ((op = 1 ∧ shutWr = true) ∨ op = 4)) ∨
  (∃ v, k = .addressTypeNotSupported v ∧ (op = 2 ∨ op = 3 ∨ op = 4)) ∨
  (∃ v, k = .commandUnSupport v ∧ op = 4) ∨
  k = .ioError .eof ∨ (∃ e, k = .ioError (.read e)) ∨ (∃ e, k = .ioError (.shutdown e) ∧ op = 1)

/-- An operation that ends with one of its own errors leaves a sound state. -/
theorem sound_raise {k : Err} (hop : s.op.toNat ≤ 8) (hb : s.consumed.toNat ≤ 262) (hk : s.resKind = .none)
    (hf : raiseFits k s.op s.shutWr) : Sound (raise k s) := by
  refine ⟨⟨?_, ?_, ?_, ?_⟩, ⟨?_, ?_⟩, ⟨?_, ?_, ?_, ?_, ?_, ?_, ?_⟩, ⟨?_, ?_, ?_, ?_⟩, ⟨?_, ?_, ?_, ?_, ?_, ?_⟩,
    ⟨?_, ?_, ?_, ?_, ?_⟩⟩
  all_goals try (simp [Fsm.inHandshake, Fsm.inAddress, hop, hb, hk]; done)
  intro _
  rcases hf with ⟨v, rfl, h⟩ | ⟨v, rfl, h⟩ | ⟨v, rfl, h⟩ | rfl | ⟨e, rfl⟩ | ⟨e, rfl, h⟩
  all_goals (constructor <;> simp [Err.code, Err.cause?, IoCause.code, hb] <;> simpa using h)

/-- An operation that ends with a value of its kind leaves a sound state. -/
theorem sound_finish {k : Kind} (hop : s.op.toNat ≤ 8) (hb : s.consumed.toNat ≤ 262) (hf : okResult (finish k s)) :
    Sound (finish k s) := by
  refine ⟨⟨?_, ?_, ?_, ?_⟩, ⟨?_, ?_⟩, ⟨?_, ?_, ?_, ?_, ?_, ?_, ?_⟩, ⟨?_, ?_, ?_, ?_⟩, ⟨?_, ?_, ?_, ?_, ?_, ?_⟩,
    ⟨?_, ?_, ?_, ?_, ?_⟩⟩
  all_goals try (simp [Fsm.inHandshake, Fsm.inAddress, hop, hb]; done)
  intro _
  exact hf

/-- A refused command leaves a sound state. -/
theorem sound_refuse {r : RefuseReason} (hop : s.op.toNat ≤ 8) (hb : s.consumed.toNat ≤ 262) (hk : s.resKind = .none) :
    Sound (refuse r s) := by
  refine ⟨⟨?_, ?_, ?_, ?_⟩, ⟨?_, ?_⟩, ⟨?_, ?_, ?_, ?_, ?_, ?_, ?_⟩, ⟨?_, ?_, ?_, ?_⟩, ⟨?_, ?_, ?_, ?_, ?_, ?_⟩,
    ⟨?_, ?_, ?_, ?_, ?_⟩⟩
  all_goals try (simp [Fsm.inHandshake, Fsm.inAddress, hop, hb, hk]; done)
  cases r <;> simp [RefuseReason.code]

/-- No operation's groups take more than 262 bytes together (R108, R481). -/
theorem group_fits (s : State) : groupBase s + groupSize s ≤ 262 := by
  have hn := s.rNmeth.isLt
  have hd := s.rDlen.isLt
  unfold groupBase groupSize addressBase
  cases hs : s.fsm <;> simp only <;> (try split_ifs) <;> omega

/-- Which events are still to come does not matter. -/
theorem sound_withHost (events : List Event) (h : Sound s) : Sound (withHost events s) := by
  obtain ⟨⟨a1, a2, a3, a4⟩, ⟨b1, b2⟩, ⟨c1, c2, c3, c4, c5, c6, c7⟩, ⟨d1, d2, d3, d4⟩, ⟨e1, e2, e3, e4, e5, e6⟩,
    ⟨f1, f2, f3, f4, f5⟩⟩ := h
  refine ⟨⟨a1, a2, a3, a4⟩, ⟨b1, b2⟩, ⟨c1, c2, c3, c4, c5, c6, c7⟩, ⟨d1, d2, d3, d4⟩, ⟨e1, e2, e3, e4, e5, e6⟩,
    ⟨f1, f2, ?_, ?_, f5⟩⟩
  · intro h
    have := f3 h
    unfold okResult at this ⊢
    cases hk : s.resKind <;> simp only [hk, withHost_fields] at this ⊢ <;> try exact this
    · exact ⟨this.1, ⟨this.2.1.1, this.2.1.2⟩, this.2.2⟩
    · exact ⟨this.1, this.2.1, this.2.2.1, ⟨this.2.2.2.1.1, this.2.2.2.1.2⟩, this.2.2.2.2⟩
  · intro h
    obtain ⟨a, b, c, d, e, f⟩ := f4 h
    exact ⟨a, b, c, d, e, f⟩

/-! ## Renaming the native errors -/

/-- The fields after renaming every native error: only the error held and the events to come change. -/
@[simp] theorem mapErr_fields (f : TErr → TErr) (s : State) :
    (s.mapErr f).cmd = s.cmd ∧ (s.mapErr f).opb0 = s.opb0 ∧ (s.mapErr f).opb1 = s.opb1 ∧ (s.mapErr f).opb2 = s.opb2 ∧
    (s.mapErr f).opb3 = s.opb3 ∧ (s.mapErr f).opn = s.opn ∧ (s.mapErr f).op = s.op ∧
    (s.mapErr f).allowDomain = s.allowDomain ∧ (s.mapErr f).fsm = s.fsm ∧ (s.mapErr f).phase = s.phase ∧
    (s.mapErr f).rdReq = s.rdReq ∧ (s.mapErr f).shutReq = s.shutReq ∧ (s.mapErr f).shutWr = s.shutWr ∧
    (s.mapErr f).need = s.need ∧ (s.mapErr f).gcnt = s.gcnt ∧ (s.mapErr f).gbuf = s.gbuf ∧
    (s.mapErr f).consumed = s.consumed ∧ (s.mapErr f).resStatus = s.resStatus ∧ (s.mapErr f).resKind = s.resKind ∧
    (s.mapErr f).resConsumed = s.resConsumed ∧ (s.mapErr f).rVer = s.rVer ∧ (s.mapErr f).rNmeth = s.rNmeth ∧
    (s.mapErr f).rMethods = s.rMethods ∧ (s.mapErr f).rCmd = s.rCmd ∧ (s.mapErr f).rRsv = s.rRsv ∧
    (s.mapErr f).rAtyp = s.rAtyp ∧ (s.mapErr f).rIp4 = s.rIp4 ∧ (s.mapErr f).rIp6 = s.rIp6 ∧ (s.mapErr f).rFlow = s.rFlow ∧
    (s.mapErr f).rScope = s.rScope ∧ (s.mapErr f).rDlen = s.rDlen ∧ (s.mapErr f).rName = s.rName ∧
    (s.mapErr f).rPort = s.rPort ∧ (s.mapErr f).rU16 = s.rU16 ∧ (s.mapErr f).rU32 = s.rU32 ∧ (s.mapErr f).rLen = s.rLen ∧
    (s.mapErr f).rErr = s.rErr ∧ (s.mapErr f).rErrArg = s.rErrArg ∧ (s.mapErr f).rIoCause = s.rIoCause ∧
    (s.mapErr f).rRefuse = s.rRefuse ∧ (s.mapErr f).streamPos = s.streamPos ∧ (s.mapErr f).rIoErr = f s.rIoErr ∧
    (s.mapErr f).host = s.host.map (Event.mapErr f) := by
  repeat' (first | exact rfl | refine ⟨rfl, ?_⟩)

@[simp] theorem gbyte_mapErr (f : TErr → TErr) (s : State) (i : Nat) : (s.mapErr f).gbyte i = s.gbyte i := rfl

end Sys2Proof.Machine
end

