-- ==== Sys2Proof/Machine/Assembler.lean ====
section
/-! DEFINITION. The spec's own notation for commands (R350, R351): each mnemonic with its operands, and the `CMD` event it assembles
to. Operand registers a command does not use are written 0; their value does not matter. -/

namespace Sys2Proof.Machine

/-- A command line of a program (R350), and the one pseudo-instruction (R351). -/
inductive AsmCommand where
  | hs | addr | saddr | req
  | rd16 (b0 b1 : Byte)
  | rd32 (b0 b1 b2 b3 : Byte)
  | alen (atyp : Byte) (nlen : BitVec 10)
  | rlen (atyp : Byte) (nlen : BitVec 10)
  | daddr (allowDomain : Bool)
  deriving DecidableEq, Repr

/-- The `CMD` event of a command line (R302, R350, R351). -/
def assemble : AsmCommand → Event
  | .hs => .cmd (encode .hs) 0 0 0 0 0
  | .addr => .cmd (encode .addr) 0 0 0 0 0
  | .saddr => .cmd (encode .saddr) 0 0 0 0 0
  | .req => .cmd (encode .req) 0 0 0 0 0
  | .rd16 b0 b1 => .cmd (encode .rd16) b0 b1 0 0 0
  | .rd32 b0 b1 b2 b3 => .cmd (encode .rd32) b0 b1 b2 b3 0
  | .alen atyp nlen => .cmd (encode .alen) atyp 0 0 0 nlen
  | .rlen atyp nlen => .cmd (encode .rlen) atyp 0 0 0 nlen
  | .daddr allowDomain => .cmd (encode (Sys2Proof.daddr allowDomain)) 0 0 0 0 0

end Sys2Proof.Machine
end

