-- ==== Sys2Proof/Tests/Slice0.lean ====
section
/-! SUPPORT. Tests: ill-formed terms refused, every constructor decoded from a word written out from the spec, single steps on small
states with results taken from 95_test_vectors and the rules, and a witness for every statement that has hypotheses. -/

open Sys2Proof Sys2Proof.Machine

namespace Sys2Proof.Tests

set_option Elab.async false

/-! ## Well-formedness: one ill-formed term per check (the words stand just outside the row's range) -/

theorem test_wf_0A : WellFormed (.reserved0A 0x0C) = false := by decide

theorem test_wf_0C : WellFormed (.reserved0C 0x0B) = false := by decide

theorem test_wf_10 : WellFormed (.reserved10 0x20) = false := by decide

theorem test_wf_20 : WellFormed (.reserved20 0x1F) = false := by decide

theorem test_wf_40 : WellFormed (.reserved40 0x80) = false := by decide

theorem test_wf_80 : WellFormed (.reserved80 0x7F) = false := by decide

/-! ## Decoding: each word as R301, R330 and the frame layouts of 30_encoding write it -/

theorem test_decode_hs : decode .hostCmd [0b00000001] = .ok .hs := by decide

theorem test_decode_addr : decode .hostCmd [0b00000010] = .ok .addr := by decide

theorem test_decode_saddr : decode .hostCmd [0b00000011] = .ok .saddr := by decide

theorem test_decode_req : decode .hostCmd [0b00000100] = .ok .req := by decide

theorem test_decode_rd16 : decode .hostCmd [0b00000101] = .ok .rd16 := by decide

theorem test_decode_rd32 : decode .hostCmd [0b00000110] = .ok .rd32 := by decide

theorem test_decode_alen : decode .hostCmd [0b00000111] = .ok .alen := by decide

theorem test_decode_rlen : decode .hostCmd [0b00001000] = .ok .rlen := by decide

theorem test_decode_reserved00 : decode .hostCmd [0b00000000] = .ok .reserved00 := by decide

theorem test_decode_reserved09 : decode .hostCmd [0b00001001] = .ok .reserved09 := by decide

theorem test_decode_reserved0A : decode .hostCmd [0b00001011] = .ok (.reserved0A 0x0B) := by decide

theorem test_decode_reserved0C : decode .hostCmd [0b00001111] = .ok (.reserved0C 0x0F) := by decide

theorem test_decode_reserved10 : decode .hostCmd [0b00010010] = .ok (.reserved10 0x12) := by decide

theorem test_decode_reserved20 : decode .hostCmd [0b00111111] = .ok (.reserved20 0x3F) := by decide

theorem test_decode_reserved40 : decode .hostCmd [0b01000000] = .ok (.reserved40 0x40) := by decide

theorem test_decode_reserved80 : decode .hostCmd [0b11110001] = .ok (.reserved80 0xF1) := by decide

theorem test_decode_hsVer : decode .hsVer [0b00000101] = .ok .hsVer := by decide

theorem test_decode_reqVer : decode .reqVer [0b00000101] = .ok .reqVer := by decide

theorem test_decode_connect : decode .reqCmd [0b00000001] = .ok .reqCmdConnect := by decide

theorem test_decode_bind : decode .reqCmd [0b00000010] = .ok .reqCmdBind := by decide

theorem test_decode_udp : decode .reqCmd [0b00000011] = .ok .reqCmdUdpAssociate := by decide

theorem test_decode_ipv4 : decode .atyp [0b00000001] = .ok .atypIpv4 := by decide

theorem test_decode_domain : decode .atyp [0b00000011] = .ok .atypDomain := by decide

theorem test_decode_ipv6 : decode .atyp [0b00000100] = .ok .atypIpv6 := by decide

/-- R340: a byte that is no row of the table is rejected by name. -/
theorem test_decode_rejects :
    decode .hsVer [0x04] = .error .unsupportedVersion ∧ decode .reqVer [0x04] = .error .unsupportedVersion ∧
    decode .reqCmd [0x04] = .error .unknownCommand ∧ decode .reqCmd [0x00] = .error .unknownCommand ∧
    decode .atyp [0x02] = .error .unknownAddressType ∧ decode .atyp [0x05] = .error .unknownAddressType ∧
    decode .hostCmd [] = .error .notOneWord ∧ decode .hostCmd [0x01, 0x00] = .error .notOneWord := by decide

/-! ## Small states -/

/-- The group buffer starting with these bytes. -/
def buf (bs : List Byte) : Vector Byte Config.gbufDepth := Vector.ofFn fun i => bs.getD i.val 0

/-- An array starting with these bytes. -/
def arr (n : Nat) (bs : List Byte) : Vector Byte n := Vector.ofFn fun i => bs.getD i.val 0

/-- After reset, with these operands (R101). -/
def withOperands (b0 b1 b2 b3 : Byte) (n : BitVec 10) : State :=
  { State.reset with opb0 := b0, opb1 := b1, opb2 := b2, opb3 := b3, opn := n }

/-- Busy with operation `op` in state `f`: `bs` has arrived, `need` bytes are missing, `consumed` bytes were taken. -/
def reading (op : BitVec 4) (f : Fsm) (bs : List Byte) (need : BitVec 9) (consumed : BitVec 16) : State :=
  { State.reset with
    op := op, allowDomain := op == 2 || op == 4, fsm := f, phase := .busy, rdReq := need != 0,
    need := need, gcnt := BitVec.ofNat 9 bs.length, gbuf := buf bs, consumed := consumed }

/-- Busy in HS_SHUT: the version byte was `ver` (R451). -/
def shutting (ver : Byte) : State :=
  { State.reset with op := 1, fsm := .hsShut, phase := .busy, shutReq := true, rVer := ver, consumed := 2 }

/-- What a next state satisfies; false on a fault or a refusal. -/
def after (o : Out) (p : State → Bool) : Bool :=
  match o with
  | .next t => p t
  | .fault _ => false
  | .refused _ => false

/-- The outcome is this fault. -/
def faults (o : Out) (f : Fault) : Bool :=
  match o with
  | .next _ => false
  | .fault g => g == f
  | .refused _ => false

/-- DONE with OK, this kind and this count. -/
def okWith (k : Kind) (n : Nat) (t : State) : Bool :=
  t.phase == .done && t.resStatus == .ok && t.resKind == k && t.resConsumed.toNat == n && !t.rdReq && !t.shutReq && t.fsm == .none

/-- DONE with ERR, this code and this count. -/
def errWith (c : BitVec 4) (n : Nat) (t : State) : Bool :=
  t.phase == .done && t.resStatus == .err && t.rErr == c && t.resConsumed.toNat == n && !t.rdReq && !t.shutReq && t.fsm == .none

/-- Waiting for a byte in state `f` with `need` bytes missing. -/
def waits (f : Fsm) (need : Nat) (t : State) : Bool :=
  t.phase == .busy && t.rdReq && t.fsm == f && t.need.toNat == need && t.gcnt == 0

/-! ## The operations (95_test_vectors sections 1 and 2) -/

/-- B1, B15. -/
theorem test_rd16 : after (exec .rd16 (withOperands 0x01 0xBB 0xAA 0x55 1023)) (fun t => okWith .u16 0 t && t.rU16 == 443) = true := by
  decide +kernel

/-- B13. -/
theorem test_rd32 :
    after (exec .rd32 (withOperands 0x12 0x34 0x56 0x78 0)) (fun t => okWith .u32 0 t && t.rU32 == 305419896) = true := by
  decide +kernel

/-- L7: the largest ALEN value. -/
theorem test_alen : after (exec .alen (withOperands 0x03 0 0 0 1023)) (fun t => okWith .length 0 t && t.rLen == 1027) = true := by
  decide +kernel

/-- L14. -/
theorem test_alen_refused :
    after (exec .alen (withOperands 0x02 0 0 0 0)) (fun t => t.resStatus == .refused && t.rRefuse == 2 && t.phase == .done) = true := by
  decide +kernel

/-- L13: the largest RLEN value. -/
theorem test_rlen : after (exec .rlen (withOperands 0x03 0 0 0 1023)) (fun t => okWith .length 0 t && t.rLen == 1030) = true := by
  decide +kernel

/-- L15. -/
theorem test_rlen_refused :
    after (exec .rlen (withOperands 0x00 0 0 0 5)) (fun t => t.resStatus == .refused && t.rRefuse == 2 && t.phase == .done) = true := by
  decide +kernel

/-- E1, E2, E3, E4, E5: reserved words. -/
theorem test_reserved : ([.reserved00, .reserved09, .reserved0A 0x0B, .reserved0C 0x0F, .reserved10 0x12, .reserved20 0x20,
    .reserved40 0x7F, .reserved80 0xF1] : List Instr).all (fun i =>
      after (exec i State.reset) (fun t => t.resStatus == .refused && t.rRefuse == 1 && t.phase == .done && !t.rdReq)) = true := by
  decide +kernel

/-- The first two rows of the trace of 95_test_vectors section 2.7, and R450, R421, R480. -/
theorem test_starts :
    after (exec .addr State.reset) (fun t => waits .adTag 1 t && t.allowDomain) = true ∧
    after (exec .saddr State.reset) (fun t => waits .adTag 1 t && !t.allowDomain) = true ∧
    after (exec .hs State.reset) (waits .hsHdr 2) = true ∧ after (exec .req State.reset) (waits .rqHdr 3) = true := by
  decide +kernel

/-- E7: a command while busy has no step. -/
theorem test_command_busy : faults (exec .hs (reading 2 .adTag [] 1 0)) .notEnabled = true := by decide +kernel

/-! ## The dispatch rows -/

/-- H4: the header 05 03. -/
theorem test_hsVer : after (exec .hsVer (reading 1 .hsHdr [0x05, 0x03] 0 2)) (waits .hsMeth 3) = true := by decide +kernel

/-- H2: the header 05 00. -/
theorem test_hsVer_empty :
    after (exec .hsVer (reading 1 .hsHdr [0x05, 0x00] 0 2)) (fun t => okWith .handshake 2 t && t.rNmeth == 0) = true := by
  decide +kernel

/-- S6: the header 04 01. -/
theorem test_hs_mismatch : after (complete (reading 1 .hsHdr [0x04, 0x01] 0 2))
    (fun t => t.phase == .busy && t.shutReq && !t.rdReq && t.fsm == .hsShut && t.rVer == 4) = true := by decide +kernel

/-- Q1, Q4, Q2: the three commands, the reserved byte kept. -/
theorem test_commands :
    after (exec .reqCmdConnect (reading 4 .rqHdr [0x05, 0x01, 0x00] 0 3)) (fun t => waits .adTag 1 t && t.rCmd == 1) = true ∧
    after (exec .reqCmdBind (reading 4 .rqHdr [0x05, 0x02, 0x7F] 0 3)) (fun t => waits .adTag 1 t && t.rRsv == 0x7F) = true ∧
    after (exec .reqCmdUdpAssociate (reading 4 .rqHdr [0x05, 0x03, 0x00] 0 3)) (fun t => waits .adTag 1 t && t.rCmd == 3) = true := by
  decide +kernel

/-- Q1, Q7: the version row checks the command. -/
theorem test_reqVer :
    after (exec .reqVer (reading 4 .rqHdr [0x05, 0x01, 0x00] 0 3)) (fun t => waits .adTag 1 t && t.rVer == 5) = true ∧
    after (exec .reqVer (reading 4 .rqHdr [0x05, 0x04, 0x00] 0 3)) (fun t => errWith 5 3 t && t.rErrArg == 4) = true := by
  decide +kernel

/-- Q9: the version hides the command. -/
theorem test_req_mismatch : after (complete (reading 4 .rqHdr [0x04, 0x09, 0x00] 0 3)) (fun t => errWith 1 3 t && t.rErrArg == 4) = true := by
  decide +kernel

/-- R422: the three tags. -/
theorem test_tags :
    after (exec .atypIpv4 (reading 2 .adTag [0x01] 0 1)) (fun t => waits .adV4 6 t && t.rAtyp == 1) = true ∧
    after (exec .atypIpv6 (reading 3 .adTag [0x04] 0 1)) (fun t => waits .adV6A 16 t && t.rAtyp == 4) = true ∧
    after (exec .atypDomain (reading 2 .adTag [0x03] 0 1)) (fun t => waits .adDlen 1 t && t.rAtyp == 3) = true := by
  decide +kernel

/-- S7 (the restricted decoder), S4. -/
theorem test_tags_rejected :
    after (exec .atypDomain (reading 3 .adTag [0x03] 0 1)) (fun t => errWith 2 1 t && t.rErrArg == 3) = true ∧
    after (complete (reading 2 .adTag [0xFF] 0 1)) (fun t => errWith 2 1 t && t.rErrArg == 0xFF) = true := by
  decide +kernel

/-- A dispatch row whose byte does not stand in a completed group has no step (log 10). -/
theorem test_not_at_dispatch : faults (exec .atypIpv4 State.reset) .notAtDispatch = true := by decide +kernel

/-! ## The events -/

/-- The last byte of A1: 127.0.0.1 port 80. -/
def lastOfA1 : State := { reading 2 .adV4 [0x7F, 0, 0, 1, 0] 1 6 with rAtyp := 1 }

theorem test_ip4 : after (onEvent (.byte 0x50) lastOfA1) (fun t => okWith .address 7 t && t.rIp4 == arr 4 [0x7F, 0, 0, 1] &&
    t.rPort == 80 && t.address == .ok (.ip4 (arr 4 [0x7F, 0, 0, 1]) 80) && t.ip4U32 == .ok 2130706433) = true := by decide +kernel

/-- The last byte of the address of A4, then of its port. -/
def lastOfIp6 : State := { reading 2 .adV6A (List.replicate 15 0) 1 16 with rAtyp := 4 }

/-- The port of A4 with its last byte missing; stale flow and scope. -/
def lastOfIp6Port : State :=
  { reading 2 .adV6P [0x01] 1 18 with rAtyp := 4, rIp6 := arr 16 (List.replicate 15 0 ++ [1]), rFlow := 9, rScope := 9 }

theorem test_ip6_address : after (onEvent (.byte 0x01) lastOfIp6)
    (fun t => waits .adV6P 2 t && t.rIp6 == arr 16 (List.replicate 15 0 ++ [1]) && t.consumed == 17) = true := by decide +kernel

theorem test_ip6_port : after (onEvent (.byte 0xBB) lastOfIp6Port) (fun t => okWith .address 19 t && t.rPort == 443 &&
    t.rFlow == 0 && t.rScope == 0 && t.ip6Seg 7 == .ok 1 && t.ip6Seg 8 == .error .invalidRead) = true := by decide +kernel

/-- The length byte of A6, and of A7 with 255. -/
def atLength : State := { reading 2 .adDlen [] 1 1 with rAtyp := 3 }

theorem test_length_byte :
    after (onEvent (.byte 0x02) atLength) (fun t => waits .adDbody 4 t && t.rDlen == 2 && t.consumed == 2) = true ∧
    after (onEvent (.byte 0xFF) atLength) (waits .adDbody 257) = true := by decide +kernel

/-- The last byte of A6 with the name `61 62`; a stale third name byte stays. -/
def lastOfA6 : State := { reading 2 .adDbody [0x61, 0x62, 0x00] 1 5 with rAtyp := 3, rDlen := 2, rName := arr 255 [9, 9, 9] }

theorem test_domain : after (onEvent (.byte 0x50) lastOfA6) (fun t => okWith .address 6 t && arrayByte t.rName 1 == 0x62 && arrayByte t.rName 2 == 9 &&
    t.rPort == 80 && t.nameBytes == [0x61, 0x62] && t.nameStr == .ok [0x61, 0x62] &&
    readRes (.rName 1) t == .ok (.bits 0x62) && readRes (.rName 2) t == .error .invalidRead) = true := by decide +kernel

/-- A5: the empty name. -/
def lastOfA5 : State := { reading 2 .adDbody [0x00] 1 3 with rAtyp := 3, rDlen := 0 }

theorem test_domain_empty : after (onEvent (.byte 0x50) lastOfA5) (fun t => okWith .address 4 t && t.nameBytes == [] && t.rPort == 80) = true := by
  decide +kernel

/-- The last byte of Q1's address: a request's result. -/
def lastOfQ1 : State :=
  { reading 4 .adV4 [0xC0, 0xA8, 0x00, 0x01, 0x1F] 1 9 with rAtyp := 1, rVer := 5, rCmd := 1, rRsv := 0 }

theorem test_request : after (onEvent (.byte 0x90) lastOfQ1) (fun t => okWith .request 10 t && t.rPort == 8080 && t.rCmd == 1 &&
    t.requestHeader == .ok { command := .connect, rsv := 0, address := .ip4 (arr 4 [0xC0, 0xA8, 0, 1]) 8080 }) = true := by
  decide +kernel

/-- The last byte of H4: methods 02 02 FF, in order. -/
def lastOfH4 : State := { reading 1 .hsMeth [0x02, 0x02] 1 4 with rVer := 5, rNmeth := 3 }

theorem test_methods : after (onEvent (.byte 0xFF) lastOfH4) (fun t => okWith .handshake 5 t && t.methods == .ok [2, 2, 0xFF] &&
    readRes (.rMethods 3) t == .error .invalidRead) = true := by decide +kernel

/-- A byte inside a group. -/
theorem test_byte_inside : after (onEvent (.byte 0x7A) (reading 2 .adV4 [0x7F] 5 2))
    (fun t => t.rdReq && t.gcnt == 2 && t.need == 4 && t.consumed == 3 && t.gbyte 1 == 0x7A && t.gbyte 0 == 0x7F && t.streamPos == 1) = true := by
  decide +kernel

/-- A13: EOF with one port byte missing; no address byte is readable. -/
theorem test_eof : after (onEvent .eof (reading 2 .adV4 [0x0A, 0, 0, 1, 0] 1 6)) (fun t => errWith 10 6 t && t.rIoCause == 1 &&
    readRes (.rIp4 0) t == .error .invalidRead && readRes .rIoErr t == .error .invalidRead) = true := by decide +kernel

/-- A15: a transport fault after 10 of 16 bytes. -/
theorem test_rdErr (e : TErr) : ∃ t : State, onEvent (.rdErr e) (reading 2 .adV6A (List.replicate 10 1) 6 11) = .next t ∧
    errWith 10 11 t = true ∧ t.rIoCause = 2 ∧ readRes .rIoErr t = .ok (.native e) := ⟨_, rfl, rfl, rfl, rfl⟩

/-- H6, H7: the two answers to the shutdown request. -/
theorem test_shutdown (e : TErr) :
    after (onEvent .shutOk (shutting 4)) (fun t => errWith 1 2 t && t.rErrArg == 4 && t.shutWr) = true ∧
    ∃ t : State, onEvent (.shutErr e) (shutting 6) = .next t ∧ errWith 10 2 t = true ∧ t.rIoCause = 3 ∧ t.rIoErr = e ∧
      t.shutWr = false := ⟨by decide +kernel, _, rfl, rfl, rfl, rfl, rfl⟩

/-- A refused result with the write side closed. -/
def refusedShut : State := { State.reset with phase := .done, resStatus := .refused, rRefuse := 1, shutWr := true }

/-- E8, E9: ACK. -/
theorem test_ack : after (onEvent .ack refusedShut) (fun t => t.phase == .idle && t.resStatus == .none && t.shutWr) = true := by decide +kernel

/-- E10, H12: ABORT. -/
theorem test_abort :
    after (onEvent .abort (reading 2 .adV6A (List.replicate 5 1) 11 6)) (fun t => t.phase == .idle && t.consumed == 0 && !t.rdReq) = true ∧
    after (onEvent .abort (shutting 4)) (fun t => t.phase == .idle && !t.shutReq && !t.shutWr && t.resStatus == .none) = true := by
  decide +kernel

/-- E12: RESET. -/
theorem test_reset : after (onEvent .reset refusedShut) (fun t => t.phase == .idle && !t.shutWr && t.resStatus == .none) = true := by
  decide +kernel

/-- E6, E13: events that are not enabled. -/
theorem test_not_enabled : ([.byte 0, .eof, .rdErr .zero, .shutOk, .shutErr .zero, .ack, .abort] : List Event).all
    (fun e => faults (onEvent e State.reset) .notEnabled) = true ∧ faults (onEvent .shutOk lastOfA1) .notEnabled = true := by
  decide +kernel

/-! ## Steps, instances and the host's word placement -/

/-- The first step from reset with nothing presented has no event (log 12). -/
theorem test_step_no_event : faults (step State.reset) .noEvent = true := by decide +kernel

/-- A placed word runs in the very next step. -/
theorem test_withFetchWord : after (step (State.reset.withFetchWord 8 0x02)) (waits .adTag 1) = true ∧
    decodeTableWord 8 0x02 = some .addr ∧ decodeTableWord 16 0x02 = none := by decide +kernel

/-- A23 (R351): the pseudo-instruction assembles to SADDR's word. -/
theorem test_daddr : assemble (.daddr false) = .cmd 0x03 0 0 0 0 0 ∧ assemble (.daddr true) = .cmd 0x02 0 0 0 0 0 ∧
    assemble (.alen 3 11) = .cmd 0x07 3 0 0 0 11 := by decide

/-! ## Lossy names (R433, and U9, U10 of 95_test_vectors) -/

theorem test_lossy : lossyUtf8 [0x61, 0x80, 0x62] = [0x61, 0xFFFD, 0x62] ∧ lossyUtf8 [0xE2, 0x82] = [0xFFFD] ∧
    lossyUtf8 [0xE1, 0x80, 0x41] = [0xFFFD, 0x41] ∧ lossyUtf8 [0xED, 0xA0, 0x80] = [0xFFFD, 0xFFFD, 0xFFFD] ∧
    lossyUtf8 [0xC0, 0x80] = [0xFFFD, 0xFFFD] ∧ lossyUtf8 [0xF0, 0x9F, 0x98, 0x80] = [0x1F600] ∧
    lossyUtf8 [0xF4, 0x90, 0x80, 0x80] = [0xFFFD, 0xFFFD, 0xFFFD, 0xFFFD] ∧
    lossyUtf8 [0xE0, 0x80, 0x80] = [0xFFFD, 0xFFFD, 0xFFFD] := by decide +kernel

theorem test_lossy_len : lossyLen [0x61, 0x80, 0x62] = 5 ∧ lossyLen [0xE2, 0x82] = 3 ∧ lossyLen [0xE1, 0x80, 0x41] = 4 ∧
    lossyLen [0xED, 0xA0, 0x80] = 9 ∧ lossyLen [0xF0, 0x9F, 0x98, 0x80] = 4 := by decide +kernel

/-- A8: a name byte that is no UTF-8; the value's length is 7 although 5 bytes were taken (R514). -/
theorem test_lossy_address : after (onEvent (.byte 0x16) { reading 2 .adDbody [0x80, 0x00] 1 4 with rAtyp := 3, rDlen := 1 })
    (fun t => okWith .address 5 t && t.address == .ok (.domain [0xFFFD] 22) && (Address.domain [0xFFFD] 22).len == 7) = true := by
  decide +kernel

/-! ## Witnesses: a state and operands that meet each statement's hypotheses, each clause at a boundary value -/

/-- Sound states: idle, busy in six groups, busy in HS_SHUT, and three results. -/
theorem sound_reset : Sound State.reset := by
  apply sound_idle <;> decide +kernel

theorem sound_lastOfA1 : Sound lastOfA1 := by
  apply sound_open <;> first
    | decide +kernel
    | (constructor <;> first | decide +kernel | (intro _ h; exact absurd h (by decide +kernel)))

theorem sound_lastOfIp6 : Sound lastOfIp6 := by
  apply sound_open <;> first
    | decide +kernel
    | (constructor <;> first | decide +kernel | (intro _ h; exact absurd h (by decide +kernel)))

theorem sound_lastOfIp6Port : Sound lastOfIp6Port := by
  apply sound_open <;> first
    | decide +kernel
    | (constructor <;> first | decide +kernel | (intro _ h; exact absurd h (by decide +kernel)))

theorem sound_atLength : Sound atLength := by
  apply sound_open <;> first
    | decide +kernel
    | (constructor <;> first | decide +kernel | (intro _ h; exact absurd h (by decide +kernel)))

theorem sound_lastOfA6 : Sound lastOfA6 := by
  apply sound_open <;> first
    | decide +kernel
    | (constructor <;> first | decide +kernel | (intro _ h; exact absurd h (by decide +kernel)))

theorem sound_lastOfH4 : Sound lastOfH4 := by
  apply sound_open <;> first
    | decide +kernel
    | (constructor <;> first | decide +kernel | (intro h _; exact absurd h (by decide +kernel)))

/-- The header of HS with its second byte missing. -/
def headerOfHs : State := reading 1 .hsHdr [0x05] 1 1

theorem sound_headerOfHs : Sound headerOfHs := by
  apply sound_open <;> first
    | decide +kernel
    | (constructor <;> first | decide +kernel | (intro h _; exact absurd h (by decide +kernel)))

/-- SADDR waiting for its tag. -/
def tagOfSaddr : State := reading 3 .adTag [] 1 0

theorem sound_tagOfSaddr : Sound tagOfSaddr := by
  apply sound_open <;> first
    | decide +kernel
    | (constructor <;> first | decide +kernel | (intro _ h; exact absurd h (by decide +kernel)))

/-- ADDR waiting for its tag. -/
def tagOfAddr : State := reading 2 .adTag [] 1 0

theorem sound_tagOfAddr : Sound tagOfAddr := by
  apply sound_open <;> first
    | decide +kernel
    | (constructor <;> first | decide +kernel | (intro _ h; exact absurd h (by decide +kernel)))

/-- A decoded domain name "a" at port 80. -/
def decodedName : State :=
  finish .address { State.reset with
    op := 2, allowDomain := true, consumed := 5, rAtyp := 3, rDlen := 1, rName := arr 255 [0x61], rPort := 80 }

theorem sound_decodedName : Sound decodedName := by
  apply sound_finish
  · decide
  · decide
  · exact ⟨.inl rfl, ⟨.inr (.inl rfl), fun h => absurd h (by decide)⟩, rfl⟩

/-- A short read in ADDR. -/
def shortRead : State := raise (.ioError .eof) { State.reset with op := 2, consumed := 3 }

theorem sound_shortRead : Sound shortRead := by
  apply sound_raise
  · decide
  · decide
  · rfl
  · exact .inr (.inr (.inr (.inl rfl)))

theorem witness_DecodeOfEncode : WellFormed (.reserved0A 0x0A) = true ∧ WellFormed (.reserved80 0xFF) = true ∧
    WellFormed .atypIpv6 = true := by decide

theorem witness_EncodeOfDecode : decode .hostCmd [0x80] = .ok (.reserved80 0x80) ∧ decode .reqCmd [0x03] = .ok .reqCmdUdpAssociate := by
  decide

theorem witness_CommandWordHasOneRow :
    WellFormed (.reserved10 0x1F) = true ∧ place (.reserved10 0x1F) = .hostCmd ∧ encode (.reserved10 0x1F) = 0x1F := by decide

theorem witness_Rd16ReadsBigEndian : (withOperands 0xFF 0x00 0 0 0).phase = .idle := rfl

theorem witness_Rd32ReadsBigEndian : (withOperands 0xFF 0x00 0x01 0x02 0).phase = .idle := rfl

theorem witness_AlenGivesAddressLength :
    (∀ b ∈ [0x00, 0x01, 0x02, 0x03, 0x04, 0x05, 0xFF], (withOperands b 0 0 0 1023).phase = .idle) ∧
    (4 + (withOperands 0x03 0 0 0 1023).opn.toNat = (1027 : BitVec 11).toNat) ∧
    (4 + (withOperands 0x03 0 0 0 0).opn.toNat = (4 : BitVec 11).toNat) ∧
    (7 : BitVec 11).toNat = 7 ∧ (19 : BitVec 11).toNat = 19 := by
  refine ⟨fun b _ => rfl, ?_⟩
  decide

theorem witness_RlenGivesResponseLength :
    (∀ b ∈ [0x00, 0x01, 0x02, 0x03, 0x04, 0x05, 0xFF], (withOperands b 0 0 0 1023).phase = .idle) ∧
    (7 + (withOperands 0x03 0 0 0 1023).opn.toNat = (1030 : BitVec 11).toNat) ∧
    (7 + (withOperands 0x03 0 0 0 0).opn.toNat = (7 : BitVec 11).toNat) ∧
    (10 : BitVec 11).toNat = 10 ∧ (22 : BitVec 11).toNat = 22 := by
  refine ⟨fun b _ => rfl, ?_⟩
  decide

theorem witness_StreamCommandsOpenTheirGroup : State.reset.phase = .idle := rfl

theorem witness_RefusalWritesOnlyItsRegisters : (withOperands 0x02 0 0 0 0).phase = .idle ∧
    (0x02 : Byte) ≠ 0x01 ∧ (0x02 : Byte) ≠ 0x03 ∧ (0x02 : Byte) ≠ 0x04 ∧
    ∃ t : State, exec .reserved00 State.reset = .next t ∧ t.resStatus = .refused ∧ t.phase = .done :=
  ⟨rfl, by decide, by decide, by decide, _, rfl, rfl, rfl⟩

theorem witness_CommandEventStartsTheOperation : State.reset.phase = .idle ∧ tagOfAddr.phase ≠ .idle ∧
    (0x00 : Byte) &&& 0x0F = 0 ∧ 9 ≤ ((0x09 : Byte) &&& 0x0F).toNat ∧ 9 ≤ ((0x0F : Byte) &&& 0x0F).toNat ∧
    (0x10 : Byte) &&& 0xF0 ≠ 0 ∧ (0xFF : Byte) &&& 0xF0 ≠ 0 := by
  refine ⟨rfl, ?_⟩
  decide

theorem witness_CommandNeedsIdle : place .hs = .hostCmd ∧ place (.reserved80 0xFF) = .hostCmd ∧ tagOfAddr.phase ≠ .idle ∧
    decodedName.phase ≠ .idle := by decide

theorem witness_HandshakeHeaderDispatch :
    (∀ bs : List Byte, (reading 1 .hsHdr bs 0 2).fsm = .hsHdr ∧ (reading 1 .hsHdr bs 0 2).need = 0) ∧
    (reading 1 .hsHdr [0x05, 0x00] 0 2).gbyte 0 = 0x05 ∧ (reading 1 .hsHdr [0x05, 0x00] 0 2).gbyte 1 = 0 ∧
    (reading 1 .hsHdr [0x05, 0xFF] 0 2).gbyte 1 ≠ 0 ∧ (reading 1 .hsHdr [0x04, 0x01] 0 2).gbyte 0 ≠ 0x05 := by
  refine ⟨fun bs => ⟨rfl, rfl⟩, ?_⟩
  decide +kernel

theorem witness_RequestHeaderDispatch :
    (∀ bs : List Byte, (reading 4 .rqHdr bs 0 3).fsm = .rqHdr ∧ (reading 4 .rqHdr bs 0 3).need = 0) ∧
    (reading 4 .rqHdr [0x05, 0x03, 0xFF] 0 3).gbyte 0 = 0x05 ∧
    (reading 4 .rqHdr [0x05, 0x03, 0xFF] 0 3).gbyte 1 = encode .reqCmdUdpAssociate ∧
    (reading 4 .rqHdr [0x05, 0x02, 0x00] 0 3).gbyte 1 = encode .reqCmdBind ∧
    (reading 4 .rqHdr [0x05, 0x01, 0x00] 0 3).gbyte 1 = encode .reqCmdConnect ∧
    (reading 4 .rqHdr [0x05, 0x04, 0x00] 0 3).gbyte 1 ∉ [0x01, 0x02, 0x03] ∧
    (reading 4 .rqHdr [0x05, 0x00, 0x00] 0 3).gbyte 1 ∉ [0x01, 0x02, 0x03] ∧
    (reading 4 .rqHdr [0x04, 0x09, 0x00] 0 3).gbyte 0 ≠ 0x05 := by
  refine ⟨fun bs => ⟨rfl, rfl⟩, ?_⟩
  decide +kernel

theorem witness_AddressTypeDispatch :
    (∀ (op : BitVec 4) (bs : List Byte), (reading op .adTag bs 0 1).fsm = .adTag ∧ (reading op .adTag bs 0 1).need = 0) ∧
    (reading 2 .adTag [0x01] 0 1).gbyte 0 = 0x01 ∧ (reading 2 .adTag [0x04] 0 1).gbyte 0 = 0x04 ∧
    (reading 2 .adTag [0x03] 0 1).gbyte 0 = 0x03 ∧ (reading 2 .adTag [0x03] 0 1).allowDomain = true ∧
    (reading 3 .adTag [0x03] 0 1).gbyte 0 = 0x03 ∧ (reading 3 .adTag [0x03] 0 1).allowDomain = false ∧
    (∀ b ∈ [0x00, 0x02, 0x05, 0xFF], (reading 2 .adTag [b] 0 1).gbyte 0 ∉ [0x01, 0x03, 0x04]) := by
  refine ⟨fun op bs => ⟨rfl, rfl⟩, ?_⟩
  decide +kernel

theorem witness_ByteIsStoredAndCounted : lastOfA1.rdReq = true ∧ lastOfA1.need = 1 ∧ (reading 2 .adV4 [0x7F] 5 2).rdReq = true ∧
    (reading 2 .adV4 [0x7F] 5 2).need ≠ 1 ∧ State.reset.rdReq = false := by decide

theorem witness_EofRaisesIoError : lastOfA1.rdReq = true ∧ State.reset.rdReq = false ∧
    (∃ v : RegValue, readRes .rErr (onEof lastOfA1) = .ok v) ∧ onEvent .eof lastOfA1 = .next (onEof lastOfA1) :=
  ⟨rfl, rfl, ⟨_, rfl⟩, rfl⟩

theorem witness_ReadFaultRaisesIoError : lastOfA1.rdReq = true ∧ State.reset.rdReq = false := ⟨rfl, rfl⟩

theorem witness_ShutdownAnswersEndTheHandshake : (shutting 4).shutReq = true ∧ State.reset.shutReq = false := ⟨rfl, rfl⟩

theorem witness_MethodsAreKeptInOrder :
    (Sound lastOfH4 ∧ lastOfH4.rdReq = true ∧ lastOfH4.need = 1 ∧ lastOfH4.fsm = .hsMeth) ∧
    (Sound headerOfHs ∧ headerOfHs.rdReq = true ∧ headerOfHs.need = 1 ∧ headerOfHs.fsm = .hsHdr ∧ headerOfHs.gbyte 0 = 0x05) :=
  ⟨⟨sound_lastOfH4, rfl, rfl, rfl⟩, sound_headerOfHs, rfl, rfl, rfl, by decide +kernel⟩

theorem witness_Ip4GroupGivesAddressAndPort :
    Sound lastOfA1 ∧ lastOfA1.rdReq = true ∧ lastOfA1.fsm = .adV4 ∧ lastOfA1.need = 1 ∧ lastOfA1.op ≠ 0x4 :=
  ⟨sound_lastOfA1, rfl, rfl, rfl, by decide⟩

theorem witness_Ip6GroupsGiveAddressAndPort :
    (Sound lastOfIp6 ∧ lastOfIp6.rdReq = true ∧ lastOfIp6.need = 1 ∧ lastOfIp6.fsm = .adV6A) ∧
    (Sound lastOfIp6Port ∧ lastOfIp6Port.rdReq = true ∧ lastOfIp6Port.need = 1 ∧ lastOfIp6Port.fsm = .adV6P ∧ lastOfIp6Port.op ≠ 0x4) :=
  ⟨⟨sound_lastOfIp6, rfl, rfl, rfl⟩, sound_lastOfIp6Port, rfl, rfl, rfl, by decide⟩

theorem witness_RestrictedDecoderTakesOneByte :
    Sound tagOfSaddr ∧ tagOfSaddr.rdReq = true ∧ tagOfSaddr.fsm = .adTag ∧ tagOfSaddr.allowDomain = false :=
  ⟨sound_tagOfSaddr, rfl, rfl, rfl⟩

theorem witness_LengthByteOpensTheBody : Sound atLength ∧ atLength.rdReq = true ∧ atLength.fsm = .adDlen :=
  ⟨sound_atLength, rfl, rfl⟩

theorem witness_DomainBodyGivesNameAndPort :
    Sound lastOfA6 ∧ lastOfA6.rdReq = true ∧ lastOfA6.fsm = .adDbody ∧ lastOfA6.need = 1 ∧ lastOfA6.op ≠ 0x4 :=
  ⟨sound_lastOfA6, rfl, rfl, rfl, by decide⟩

theorem witness_GroupIsWholeWhenItCompletes :
    Sound lastOfA6 ∧ lastOfA6.rdReq = true ∧ lastOfA6.need = 1 ∧ 0 < lastOfA6.gcnt.toNat ∧
    ∃ s' : State, s' = { lastOfA6 with gbuf := s'.gbuf } ∧ (∀ i : Nat, i < lastOfA6.gcnt.toNat → s'.gbyte i = lastOfA6.gbyte i) ∧
      s'.gbyte 4 ≠ lastOfA6.gbyte 4 :=
  ⟨sound_lastOfA6, rfl, rfl, by decide, { lastOfA6 with gbuf := buf [0x61, 0x62, 0x00, 0x00, 0x77] }, rfl,
    (by decide +kernel : ∀ i : Nat, i < 3 → _), by decide +kernel⟩

theorem witness_RaiseWritesTheErrorRegisters :
    (∃ v : RegValue, readRes .rErrArg (raise (.commandUnSupport 9) State.reset) = .ok v) ∧
    (∃ v : RegValue, readRes .rIoErr (raise (.ioError (.read .zero)) State.reset) = .ok v) := ⟨⟨_, rfl⟩, ⟨_, rfl⟩⟩

theorem witness_AckReturnsToIdle : decodedName.phase = .done ∧ State.reset.phase ≠ .done := by decide

theorem witness_AbortReturnsToIdle : lastOfA1.phase ≠ .idle ∧ decodedName.phase ≠ .idle ∧ State.reset.phase = .idle := by decide

theorem witness_ResetPutsTheResetValues :
    ∃ t : State, onEvent .reset refusedShut = .next t ∧ refusedShut.shutWr = true ∧ t.shutWr = false := ⟨_, rfl, rfl, rfl⟩

theorem witness_StepRunsTheDecodedInstruction :
    (∃ s : State, s.host = [.cmd 0x05 1 2 0 0 0] ∧ s.phase = .idle ∧ decode .hostCmd [0x05] = .ok .rd16) ∧
    (∃ s : State, s.host = [.byte 0x01] ∧ s.rdReq = true ∧ s.need = 1 ∧ s.fsm = .adTag ∧
      decode .atyp [(takeByte 0x01 s).gbyte 0] = .ok .atypIpv4) ∧
    (∃ s : State, s.host = [.byte 0x00] ∧ s.rdReq = true ∧ s.need = 1 ∧ s.fsm = .hsHdr ∧
      decode .hsVer [(takeByte 0x00 s).gbyte 0] = .ok .hsVer) ∧
    (∃ s : State, s.host = [.byte 0x00] ∧ s.rdReq = true ∧ s.need = 1 ∧ s.fsm = .rqHdr ∧
      decode .reqVer [(takeByte 0x00 s).gbyte 0] = .ok .reqVer) :=
  ⟨⟨withHost [.cmd 0x05 1 2 0 0 0] State.reset, rfl, rfl, by decide⟩,
    ⟨withHost [.byte 0x01] tagOfAddr, rfl, rfl, rfl, rfl, by decide +kernel⟩,
    ⟨withHost [.byte 0x00] headerOfHs, rfl, rfl, rfl, rfl, by decide +kernel⟩,
    ⟨withHost [.byte 0x00] (reading 4 .rqHdr [0x05, 0x01] 1 2), rfl, rfl, rfl, rfl, by decide +kernel⟩⟩

theorem witness_EventsStepExactlyWhenEnabled : Sound lastOfA1 ∧ HostMay (.byte 0) lastOfA1 ∧ ¬HostMay .ack lastOfA1 ∧
    lastOfA1.host = [] ∧ ∃ s : State, Sound s ∧ s.host = [.ack] :=
  ⟨sound_lastOfA1, rfl, (by simp [HostMay, lastOfA1, reading]), rfl, _, sound_withHost [.ack] sound_reset, rfl⟩

theorem witness_StepKeepsTheFlagInvariants : ∃ s t : State, FlagsOk s ∧ step s = .next t :=
  ⟨_, _, (sound_withHost [.byte 0] sound_lastOfA1).flags, rfl⟩

theorem witness_StepKeepsSoundStates : ∃ s t : State, Sound s ∧ step s = .next t :=
  ⟨_, _, sound_withHost [.byte 0] sound_lastOfA1, rfl⟩

theorem witness_StepStopsOnlyForTheHost : Sound State.reset ∧ step State.reset = .fault .noEvent ∧
    ∃ s : State, Sound s ∧ step s = .fault .notEnabled :=
  ⟨sound_reset, rfl, _, sound_withHost [.ack] sound_reset, rfl⟩

theorem witness_UnemittedKindsAreNeverRaised : ∃ t : State, step (withHost [.eof] lastOfA1) = .next t ∧ t.rErr = 10 := ⟨_, rfl, rfl⟩

theorem witness_ShutWrChangesOnlyByShutOkAndReset :
    (∃ t : State, step (withHost [.reset] refusedShut) = .next t ∧ refusedShut.shutWr = true ∧ t.shutWr = false) ∧
    (∃ t : State, step (withHost [.shutOk] (shutting 4)) = .next t ∧ (shutting 4).shutWr = false ∧ t.shutWr = true) :=
  ⟨⟨_, rfl, rfl, rfl⟩, ⟨_, rfl, rfl, rfl⟩⟩

theorem witness_OnlyBytesMoveTheStream : (∃ t : State, onEvent (.byte 0x50) lastOfA1 = .next t) ∧
    (∃ t : State, onEvent .eof lastOfA1 = .next t) ∧ (∃ t : State, onEvent .reset lastOfA1 = .next t) :=
  ⟨⟨_, rfl⟩, ⟨_, rfl⟩, ⟨_, rfl⟩⟩

theorem witness_ResultStandsUntilReleased : Sound decodedName ∧ decodedName.phase = .done ∧
    (∃ t : State, onEvent .ack decodedName = .next t) := ⟨sound_decodedName, rfl, _, rfl⟩

theorem witness_ReadingEndsWithinTheLongestFrame :
    ∃ (s : State) (bs : List Byte), Sound s ∧ s.rdReq = true ∧ 262 ≤ bs.length ∧ s.host = bs.map Event.byte :=
  ⟨_, List.replicate 262 0, sound_withHost ((List.replicate 262 0).map Event.byte) sound_tagOfAddr, rfl,
    by rw [List.length_replicate], rfl⟩

/-- E8 and A1: what the two registers that name a result read as. -/
theorem witness_ReadsAnswerExactlyWhenValid :
    (∃ ok err handshake request address : Prop, (ok ↔ decodedName.phase = .done ∧ decodedName.resStatus = .ok) ∧
      (err ↔ decodedName.phase = .done ∧ decodedName.resStatus = .err) ∧ (handshake ↔ ok ∧ decodedName.resKind = .handshake) ∧
      (request ↔ ok ∧ decodedName.resKind = .request) ∧
      (address ↔ ok ∧ (decodedName.resKind = .address ∨ decodedName.resKind = .request))) ∧
    readRes .resStatus decodedName = .ok (.bits 1) ∧ readRes .resKind decodedName = .ok (.bits 2) ∧
    readRes (.rName 0) decodedName = .ok (.bits 0x61) ∧ readRes (.rName 1) decodedName = .error .invalidRead ∧
    readRes .resStatus State.reset = .ok (.bits 0) ∧ readRes .rRefuse refusedShut = .ok (.bits 1) :=
  ⟨⟨_, _, _, _, _, Iff.rfl, Iff.rfl, Iff.rfl, Iff.rfl, Iff.rfl⟩, by decide +kernel⟩

theorem witness_NothingIsReadableOutsideDone : lastOfA1.phase ≠ .done ∧ ResReg.rPort ≠ .resStatus := by decide

theorem witness_NoPartialValueOnError : shortRead.resStatus = .err ∧ ∃ v : RegValue, readRes .resConsumed shortRead = .ok v :=
  ⟨rfl, _, rfl⟩

theorem witness_AbortHidesTheOperation : lastOfA1.shutWr = decodedName.shutWr ∧ (∃ t : State, onEvent .abort lastOfA1 = .next t) ∧
    (∃ t : State, onEvent .abort decodedName = .next t) := ⟨rfl, ⟨_, rfl⟩, ⟨_, rfl⟩⟩

theorem witness_BusyShowsOnlyTheRequest : Sound lastOfA1 ∧ Sound lastOfH4 ∧ lastOfA1.phase = .busy ∧ lastOfH4.phase = .busy ∧
    lastOfA1.shutReq = lastOfH4.shutReq ∧ lastOfA1.shutWr = lastOfH4.shutWr :=
  ⟨sound_lastOfA1, sound_lastOfH4, rfl, rfl, rfl, rfl⟩

theorem witness_ViewsAreBigEndian : (∃ s : State, s.hasAtyp 0x01 = true) ∧ (∃ s : State, s.hasAtyp 0x04 = true) ∧
    State.reset.hasAtyp 0x01 = false ∧ State.reset.hasAtyp 0x04 = false :=
  ⟨⟨finish .address { State.reset with rAtyp := 1 }, by decide⟩, ⟨finish .address { State.reset with rAtyp := 4 }, by decide⟩,
    by decide, by decide⟩

theorem witness_DecodedLengthIsConsumed : Sound decodedName ∧ decodedName.hasKind .address = true ∧ decodedName.rAtyp = 0x03 ∧
    decodedName.nameBytes = [0x61].flatMap encodeScalar ∧ ∀ c ∈ [0x61], isScalar c = true :=
  ⟨sound_decodedName, by decide, rfl, by decide +kernel, by decide⟩

theorem witness_WellFormedNameDecodesExactly :
    ∀ c ∈ [0x0, 0x7F, 0x80, 0x7FF, 0x800, 0xD7FF, 0xE000, 0xFFFF, 0x10000, 0x10FFFF], isScalar c = true := by decide

theorem witness_LossyLengthIsBounded : 0xFFFD ∈ lossyUtf8 [0xFF] := by decide +kernel

/-- An idle sound block to which the host presents `w` and then these events. -/
theorem witness_command (w : Byte) (es : List Event) :
    ∃ s : State, FlagsOk s ∧ s.phase = .idle ∧ s.host = .cmd w 0 0 0 0 0 :: es :=
  ⟨_, (sound_withHost (.cmd w 0 0 0 0 0 :: es) sound_reset).flags, rfl, rfl⟩

theorem witness_AddressStepsFollowTheProgram : (∃ s : State, FlagsOk s ∧ s.phase = .idle ∧
      s.host = .cmd 0x02 0 0 0 0 0 :: ([Answer.byte 0x01, Answer.eof].map Answer.event ++ [.ack])) ∧
    (∃ s : State, FlagsOk s ∧ s.phase = .idle ∧
      s.host = .cmd 0x03 0 0 0 0 0 :: ([Answer.byte 0x03].map Answer.event ++ [])) :=
  ⟨witness_command 0x02 _, witness_command 0x03 _⟩

theorem witness_HandshakeStepsFollowTheProgram : ∃ s : State, FlagsOk s ∧ s.phase = .idle ∧
    s.host = .cmd 0x01 0 0 0 0 0 :: ([Answer.byte 0x04, Answer.byte 0x00, Answer.shutOk].map Answer.event ++ []) :=
  witness_command 0x01 _

theorem witness_RequestStepsFollowTheProgram : ∃ s : State, FlagsOk s ∧ s.phase = .idle ∧
    s.host = .cmd 0x04 0 0 0 0 0 :: ([Answer.byte 0x05, Answer.rdErr .zero].map Answer.event ++ []) :=
  witness_command 0x04 _

theorem witness_AddressFrameIsDecoded : ∃ (s : State) (a : WireAddress), FlagsOk s ∧ s.phase = .idle ∧ a.encodable = true ∧
    s.host = .cmd 0x02 0 0 0 0 0 :: ((addressFrame a).map Event.byte ++ []) := by
  obtain ⟨s, hf, hp, hh⟩ := witness_command 0x02 ((addressFrame (.domain (List.replicate 255 0xFF) 80)).map Event.byte ++ [])
  exact ⟨s, _, hf, hp, by decide +kernel, hh⟩

theorem witness_RequestFrameIsDecoded : ∃ (s : State) (a : WireAddress), FlagsOk s ∧ s.phase = .idle ∧ a.encodable = true ∧
    isCommand 0x03 ∧ s.host = .cmd 0x04 0 0 0 0 0 :: ((requestFrame 0x03 0xFF a).map Event.byte ++ []) := by
  obtain ⟨s, hf, hp, hh⟩ := witness_command 0x04 ((requestFrame 0x03 0xFF (.domain [] 0)).map Event.byte ++ [])
  exact ⟨s, _, hf, hp, by decide, .inr (.inr rfl), hh⟩

theorem witness_HandshakeFrameIsDecoded : ∃ (s : State) (ms : List Byte), FlagsOk s ∧ s.phase = .idle ∧ ms.length ≤ 255 ∧
    s.host = .cmd 0x01 0 0 0 0 0 :: ((handshakeFrame ms).map Event.byte ++ []) := by
  obtain ⟨s, hf, hp, hh⟩ := witness_command 0x01 ((handshakeFrame []).map Event.byte ++ [])
  exact ⟨s, _, hf, hp, by decide, hh⟩

theorem witness_InstancesAreIndependent : ∃ sys' : System 2,
    System.stepAt 0 (Vector.replicate 2 (withHost [.reset] State.reset)) = .next sys' := ⟨_, rfl⟩

end Sys2Proof.Tests
end

section
/-! PROOFS. The state after reset (10_state, R160). -/

namespace Sys2Proof.Machine

/-- Settles O31: `core.reset` is the literal state `State.reset`, so each field the reset table speaks of computes to its value. -/
theorem resetStateHasTheResetValues : Obligations.ResetStateHasTheResetValues := by
  rintro _ rfl
  exact ⟨rfl, rfl, rfl, rfl, rfl, rfl, rfl, rfl, rfl, rfl, rfl, rfl⟩

end Sys2Proof.Machine
end

section
/-! PROOFS. What an ERR result shows the host (10_state section 5, R110, R111). -/

namespace Sys2Proof.Machine

variable {s : State} {r : ResReg} {v : RegValue}

/-- A read answers a value only inside the register's validity. -/
theorem valid_of_readRes_ok (h : readRes r s = .ok v) : r.valid s = true := by
  unfold readRes at h
  split at h
  · assumption
  · cases h

theorem hasStatus_eq_false_of_err {st : Status} (he : s.resStatus = .err) (hst : st ≠ .err) : s.hasStatus st = false := by
  simp [State.hasStatus, he, hst.symm]

theorem hasKind_eq_false_of_err {k : Kind} (he : s.resStatus = .err) : s.hasKind k = false := by
  simp [State.hasKind, hasStatus_eq_false_of_err he]

theorem hasAddress_eq_false_of_err (he : s.resStatus = .err) : s.hasAddress = false := by
  simp [State.hasAddress, hasKind_eq_false_of_err he]

theorem hasAtyp_eq_false_of_err {t : Byte} (he : s.resStatus = .err) : s.hasAtyp t = false := by
  simp [State.hasAtyp, hasAddress_eq_false_of_err he]

/-- On an ERR result the valid registers are the status, the count and the error registers: every other register asks for an OK or
REFUSED status, directly or through its kind or its tag. -/
theorem valid_of_err (he : s.resStatus = .err) (h : r.valid s = true) :
    r = .resStatus ∨ r = .resConsumed ∨ r = .rErr ∨ r = .rErrArg ∨ r = .rIoCause ∨ r = .rIoErr := by
  cases r <;> simp [ResReg.valid, hasStatus_eq_false_of_err he, hasKind_eq_false_of_err he, hasAddress_eq_false_of_err he,
    hasAtyp_eq_false_of_err he] at h ⊢

/-- The payload is valid for kinds 1, 2 and 5 only, so not for an IOError. -/
theorem rErrArg_not_valid_of_ioError (hc : s.rErr = 10) : ResReg.rErrArg.valid s = false := by
  simp [ResReg.valid, hc]

/-- The native error is valid for the causes READ and SHUTDOWN only, so not for an EOF. -/
theorem rIoErr_not_valid_of_eof (hc : s.rIoCause = 1) : ResReg.rIoErr.valid s = false := by
  simp [ResReg.valid, hc]

/-- An IOError with cause EOF shows the status, the count, the code and the cause, and nothing else. -/
theorem readable_of_eof (he : s.resStatus = .err) (hc : s.rErr = 10) (hi : s.rIoCause = 1) (h : readRes r s = .ok v) :
    r = .resStatus ∨ r = .resConsumed ∨ r = .rErr ∨ r = .rIoCause := by
  have hv := valid_of_readRes_ok h
  obtain rfl | rfl | rfl | rfl | rfl | rfl := valid_of_err he hv
  case inr.inr.inr.inl => simp [rErrArg_not_valid_of_ioError hc] at hv
  case inr.inr.inr.inr.inr => simp [rIoErr_not_valid_of_eof hi] at hv
  all_goals simp

end Sys2Proof.Machine
end

section
/-! PROOFS. The events of a read group (20_memory, R211 to R213). -/

namespace Sys2Proof.Machine

variable {s : State}

theorem onEvent_byte_more {b : Byte} (hr : s.rdReq = true) (hn : s.need ≠ 1) : onEvent (.byte b) s = .next (takeByte b s) :=
  (onEvent_enabled (e := .byte b) hr).trans (onByte_more hn)

theorem onEvent_byte_last {b : Byte} (hr : s.rdReq = true) (hn : s.need = 1) :
    onEvent (.byte b) s = complete (closeGroup (takeByte b s)) :=
  (onEvent_enabled (e := .byte b) hr).trans (onByte_last hn)

theorem onEvent_eof (hr : s.rdReq = true) : onEvent .eof s = .next (raise (.ioError .eof) (closeGroup s)) := onEvent_enabled hr

theorem onEvent_rdErr {e : TErr} (hr : s.rdReq = true) :
    onEvent (.rdErr e) s = .next (raise (.ioError (.read e)) (closeGroup s)) := onEvent_enabled hr

/-- Settles O16: with the stream's position one further, the state the statement writes out is `takeByte b s`, and its `rd_req <- 0`
is `closeGroup`. -/
theorem byteIsStoredAndCounted : Obligations.ByteIsStoredAndCounted := by
  intro s b
  refine ⟨fun hr => ⟨s.streamPos + 1, ?_⟩, fun hr => onEvent_not_enabled hr⟩
  rintro _ rfl
  exact ⟨onEvent_byte_more hr, onEvent_byte_last hr⟩

/-- Settles O17: the state the statement writes out is `raise` of an IOError with cause EOF, and `readable_of_eof` says what the host
can read of it. -/
theorem eofRaisesIoError : Obligations.EofRaisesIoError := by
  intro s
  refine ⟨fun hr => ?_, fun hr => onEvent_not_enabled hr⟩
  rintro _ rfl
  exact ⟨onEvent_eof hr, fun _ _ => readable_of_eof rfl rfl rfl⟩

/-- Settles O18: the state the statement writes out is `raise` of an IOError with cause READ, which records the error it is given. -/
theorem readFaultRaisesIoError : Obligations.ReadFaultRaisesIoError :=
  fun _ _ => ⟨fun hr => onEvent_rdErr hr, fun hr => onEvent_not_enabled hr⟩

end Sys2Proof.Machine
end

section
/-! PROOFS. What a `CMD` event does: refusals (30_encoding, R330) and the start of each operation (30_encoding section 2, R320). -/

namespace Sys2Proof.Machine

open Sys2Proof.Laws.ReservedWords (isReserved wordRefused)

variable {s : State}

/-! ## Refusals -/

/-- Every reserved row has the one meaning R330 gives it. -/
theorem exec_of_isReserved {i : Instr} (hi : isReserved i = true) (h : s.phase = .idle) :
    exec i s = .next (refuse .reservedOp s) := by
  cases i
  case reserved00 | reserved09 | reserved0A | reserved0C | reserved10 | reserved20 | reserved40 | reserved80 =>
    exact whenIdle_idle h
  all_goals cases hi

/-- No address has another tag than the three, so it has no length (R510). -/
theorem alen_eq_none {tag : Byte} (n : Nat) (h1 : tag ≠ 0x01) (h3 : tag ≠ 0x03) (h4 : tag ≠ 0x04) : alen tag n = none :=
  (if_neg h1).trans ((if_neg h4).trans (if_neg h3))

theorem exec_alen (h : s.phase = .idle) :
    exec .alen s = .next (finishLength (alen s.opb0 s.operandNlen.toNat) (accept 0x7 s)) := whenIdle_idle h

theorem exec_rlen (h : s.phase = .idle) :
    exec .rlen s = .next (finishLength (rlen s.opb0 s.operandNlen.toNat) (accept 0x8 s)) := whenIdle_idle h

theorem exec_alen_badOperand (h : s.phase = .idle) (h1 : s.opb0 ≠ 0x01) (h3 : s.opb0 ≠ 0x03) (h4 : s.opb0 ≠ 0x04) :
    exec .alen s = .next (refuse .badOperand (accept 0x7 s)) := by
  rw [exec_alen h, alen_eq_none _ h1 h3 h4, finishLength]

theorem exec_rlen_badOperand (h : s.phase = .idle) (h1 : s.opb0 ≠ 0x01) (h3 : s.opb0 ≠ 0x03) (h4 : s.opb0 ≠ 0x04) :
    exec .rlen s = .next (refuse .badOperand (accept 0x8 s)) := by
  rw [exec_rlen h, rlen, alen_eq_none _ h1 h3 h4, Option.map_none, finishLength]

theorem onEvent_ack (h : s.phase = .done) : onEvent .ack s = .next (release s) :=
  onEvent_enabled (e := .ack) (by simp [enabled, h])

/-- Settles O10: the states the statement writes out are `refuse` of the idle state, for ALEN and RLEN after `accept`; and ACK
releases whatever stands in DONE. -/
theorem refusalWritesOnlyItsRegisters : Obligations.RefusalWritesOnlyItsRegisters := by
  intro s h
  refine ⟨fun w i hi => ?reserved, fun i hi h1 h3 h4 => ?badOperand, fun i t _ _ hd => ?ack⟩
  case reserved =>
    have hr : isReserved i = true := by
      simp only [List.mem_cons, List.not_mem_nil, or_false] at hi
      rcases hi with rfl | rfl | rfl | rfl | rfl | rfl | rfl | rfl <;> rfl
    exact exec_of_isReserved hr h
  case badOperand =>
    simp only [List.mem_cons, List.not_mem_nil, or_false] at hi
    obtain rfl | rfl := hi
    · exact ⟨0x7, exec_alen_badOperand h h1 h3 h4⟩
    · exact ⟨0x8, exec_rlen_badOperand h h1 h3 h4⟩
  case ack =>
    exact ⟨release t, onEvent_ack hd, rfl, rfl⟩

/-! ## The `CMD` event -/

theorem onEvent_cmd_idle {w b0 b1 b2 b3 : Byte} {n : BitVec 10} (h : s.phase = .idle) :
    onEvent (.cmd w b0 b1 b2 b3 n) s = exec (decodeCmd w) (latch w b0 b1 b2 b3 n s) :=
  onEvent_enabled (e := .cmd w b0 b1 b2 b3 n) (by simp [enabled, h])

theorem onEvent_cmd_not_idle {w b0 b1 b2 b3 : Byte} {n : BitVec 10} (h : s.phase ≠ .idle) :
    onEvent (.cmd w b0 b1 b2 b3 n) s = .fault .notEnabled :=
  onEvent_not_enabled (by simp [enabled, h])

/-- The decoder reads a reserved row exactly where R320's test refuses the word: a fact about 256 words. -/
theorem isReserved_decodeCmd : ∀ w : Byte, isReserved (decodeCmd w) = wordRefused w := by decide +kernel

theorem wordRefused_iff {w : Byte} :
    wordRefused w = true ↔ w &&& 0xF0 ≠ 0 ∨ w &&& 0x0F = 0 ∨ 9 ≤ (w &&& 0x0F).toNat := by
  simp [wordRefused, or_assoc]

/-! ## The operations that complete in the `CMD` step -/

/-- How an operation that takes no stream byte ends: in DONE, with its number in `op` and nothing counted (R320). -/
structure EndsWithoutBytes (c : BitVec 4) (t : State) : Prop where
  op_eq : t.op = c
  consumed_eq : t.consumed = 0
  phase_eq : t.phase = .done
  count_eq : t.resStatus = .ok → t.resConsumed = 0

/-- A length operation ends, with a length or refused, and counts what was counted before it: nothing. -/
theorem endsWithoutBytes_finishLength (c : BitVec 4) (len : Option Nat) :
    EndsWithoutBytes c (finishLength len (accept c s)) := by
  cases len with
  | none => exact ⟨rfl, rfl, rfl, fun hok => by cases hok⟩
  | some k => exact ⟨rfl, rfl, rfl, fun _ => rfl⟩

theorem exec_rd16_ends (h : s.phase = .idle) : ∃ t, exec .rd16 s = .next t ∧ EndsWithoutBytes 0x5 t :=
  ⟨_, whenIdle_idle h, rfl, rfl, rfl, fun _ => rfl⟩

theorem exec_rd32_ends (h : s.phase = .idle) : ∃ t, exec .rd32 s = .next t ∧ EndsWithoutBytes 0x6 t :=
  ⟨_, whenIdle_idle h, rfl, rfl, rfl, fun _ => rfl⟩

theorem exec_alen_ends (h : s.phase = .idle) : ∃ t, exec .alen s = .next t ∧ EndsWithoutBytes 0x7 t :=
  ⟨_, exec_alen h, endsWithoutBytes_finishLength _ _⟩

theorem exec_rlen_ends (h : s.phase = .idle) : ∃ t, exec .rlen s = .next t ∧ EndsWithoutBytes 0x8 t :=
  ⟨_, exec_rlen h, endsWithoutBytes_finishLength _ _⟩

/-- Words 5 to 8: the word decodes to its row, which ends in the same step with the word's low half in `op`. -/
theorem exec_pure_ends {w : Byte} {i : Instr} (h : s.phase = .idle)
    (hw : (w = 0x05 ∧ i = .rd16) ∨ (w = 0x06 ∧ i = .rd32) ∨ (w = 0x07 ∧ i = .alen) ∨ (w = 0x08 ∧ i = .rlen)) :
    decodeCmd w = i ∧ ∃ t, exec i s = .next t ∧ EndsWithoutBytes (w.extractLsb' 0 4) t := by
  obtain ⟨rfl, rfl⟩ | ⟨rfl, rfl⟩ | ⟨rfl, rfl⟩ | ⟨rfl, rfl⟩ := hw
  · exact ⟨rfl, exec_rd16_ends h⟩
  · exact ⟨rfl, exec_rd32_ends h⟩
  · exact ⟨rfl, exec_alen_ends h⟩
  · exact ⟨rfl, exec_rlen_ends h⟩

/-- Settles O11: in IDLE the event runs the decoded row on the latched state, which the statement calls `s'`; that row refuses,
opens the word's first group, or ends at once. -/
theorem commandEventStartsTheOperation : Obligations.CommandEventStartsTheOperation := by
  intro s w b0 b1 b2 b3 n
  refine ⟨onEvent_cmd_not_idle, ?_⟩
  rintro h _ rfl
  have hl : (latch w b0 b1 b2 b3 n s).phase = .idle := h
  rw [onEvent_cmd_idle h]
  refine ⟨fun hw => ?refused, ?hs, ?addr, ?saddr, ?req, fun i hi => ?pure⟩
  case refused => exact exec_of_isReserved ((isReserved_decodeCmd w).trans (wordRefused_iff.mpr hw)) hl
  case hs | addr | saddr | req =>
    rintro rfl
    exact whenIdle_idle hl
  case pure =>
    obtain ⟨rfl, t, ht, hop, hc, hp, hn⟩ := exec_pure_ends hl hi
    exact ⟨t, ht, ht, hop, hc, hp, hn⟩

end Sys2Proof.Machine
end

section
/-! PROOFS. The big-endian field reader (40_byte_order, R410, R411). -/

namespace Sys2Proof.Machine

variable {s : State}

theorem exec_rd16 (h : s.phase = .idle) :
    exec .rd16 s = .next (finish .u16 { accept 0x5 s with rU16 := s.operand16 }) := whenIdle_idle h

theorem exec_rd32 (h : s.phase = .idle) :
    exec .rd32 s = .next (finish .u32 { accept 0x6 s with rU32 := s.operand32 }) := whenIdle_idle h

/-- Settles O5: the state the statement writes out is `finish` of the accepted state, with the first operand byte the high half of
the value. -/
theorem rd16ReadsBigEndian : Obligations.Rd16ReadsBigEndian :=
  ⟨rfl, fun s h => ⟨s.operand16, be16_toNat s.opb0 s.opb1, exec_rd16 h⟩⟩

/-- Settles O6: as for O5, with the four operand bytes from the highest down. -/
theorem rd32ReadsBigEndian : Obligations.Rd32ReadsBigEndian :=
  ⟨rfl, fun s h => ⟨s.operand32, be32_toNat s.opb0 s.opb1 s.opb2 s.opb3, exec_rd32 h⟩⟩

end Sys2Proof.Machine
end

section
/-! PROOFS. The address decoder (41_address): the tag's dispatch (R422, R429) and the address bodies (R423 to R428). -/

namespace Sys2Proof.Machine

variable {s : State} {b : Byte}

/-! ## The groups of a sound state -/

/-- The block waits for a byte in BUSY only, and its group is not yet whole. -/
theorem Sound.open_group (h : Sound s) (hr : s.rdReq = true) :
    s.phase = .busy ∧ 0 < s.need.toNat ∧ s.gcnt.toNat + s.need.toNat = groupSize s :=
  have ⟨hp, hn⟩ := h.flags.rdReq_busy hr
  ⟨hp, hn, h.group.size hr⟩

/-- A group of one byte is waiting for its last byte, and its first. -/
theorem Sound.need_gcnt_of_groupSize_one (h : Sound s) (hr : s.rdReq = true) (hg : groupSize s = 1) :
    s.need = 1 ∧ s.gcnt.toNat = 0 := by
  obtain ⟨-, hpos, hsize⟩ := h.open_group hr
  refine ⟨BitVec.eq_of_toNat_eq (?_ : s.need.toNat = 1), ?_⟩ <;> omega

/-- The byte a group of one byte takes is the group's byte 0. -/
theorem Sound.gbyte_zero_takeByte (h : Sound s) (hr : s.rdReq = true) (hg : groupSize s = 1) : (takeByte b s).gbyte 0 = b := by
  have h0 := (h.need_gcnt_of_groupSize_one hr hg).2
  rw [gbyte_takeByte b 0 (by simp [h0]), h0, if_pos rfl]

/-- With a group's last byte, `consumed` counts the groups before it and the whole of it (R108). -/
theorem Sound.consumed_takeByte_last (h : Sound s) (hr : s.rdReq = true) (hn : s.need = 1) :
    (takeByte b s).consumed.toNat = groupBase s + groupSize s := by
  obtain ⟨-, -, hsize⟩ := h.open_group hr
  have hneed : s.need.toNat = 1 := congrArg BitVec.toNat hn
  have hcount := h.group.counts hr
  have hbound := h.group.bounded
  have hnext : (takeByte b s).consumed.toNat = (s.consumed.toNat + 1) % 65536 := by simp
  omega

/-- ADDR and SADDR read nothing before the address's tag. -/
theorem addressBase_eq_zero (hop : s.op ≠ 0x4) : addressBase s = 0 := if_neg hop

/-! ## The tag -/

theorem complete_adTag {i : Instr} (hf : s.fsm = .adTag) (hd : decodeAtyp (s.gbyte 0) = .ok i) : complete s = exec i s := by
  simp only [complete, hf, decodeAt, hd]

theorem complete_adTag_unknown (hf : s.fsm = .adTag) (h1 : s.gbyte 0 ≠ 0x01) (h3 : s.gbyte 0 ≠ 0x03) (h4 : s.gbyte 0 ≠ 0x04) :
    complete s = .next (adTagUnknown s) := by
  simp only [complete, hf, decodeAt, decodeAtyp, h1, h3, h4, if_false]

theorem decodeAtyp_ipv4 (h : b = 0x01) : decodeAtyp b = .ok .atypIpv4 := by subst h; rfl

theorem decodeAtyp_domain (h : b = 0x03) : decodeAtyp b = .ok .atypDomain := by subst h; rfl

theorem decodeAtyp_ipv6 (h : b = 0x04) : decodeAtyp b = .ok .atypIpv6 := by subst h; rfl

theorem exec_atypDomain_allowed (hf : s.fsm = .adTag) (hn : s.need = 0) (h3 : s.gbyte 0 = 0x03) (ha : s.allowDomain = true) :
    exec .atypDomain s = .next (enter .adDlen 1 (recordTag 0x03 s)) :=
  (whenDispatched_ready hf hn h3).trans (by rw [if_pos ha])

theorem exec_atypDomain_rejected (hf : s.fsm = .adTag) (hn : s.need = 0) (h3 : s.gbyte 0 = 0x03) (ha : s.allowDomain = false) :
    exec .atypDomain s = .next (raise (.addressTypeNotSupported 0x03) (recordTag 0x03 s)) :=
  (whenDispatched_ready hf hn h3).trans (by rw [if_neg (by simp [ha])])

/-- Settles O15: a tag of the table decodes to its row, which `enter`s its body's group or `raise`s; every other tag is `adTagUnknown`. -/
theorem addressTypeDispatch : Obligations.AddressTypeDispatch := by
  intro s hf hn
  refine ⟨fun h1 => ?ipv4, fun h4 => ?ipv6, fun h3 ha => ?allowed, fun h3 ha => ?rejected, fun h1 h3 h4 => ?unknown⟩
  case ipv4 => exact ⟨complete_adTag hf (decodeAtyp_ipv4 h1), whenDispatched_ready hf hn h1⟩
  case ipv6 => exact ⟨complete_adTag hf (decodeAtyp_ipv6 h4), whenDispatched_ready hf hn h4⟩
  case allowed => exact ⟨complete_adTag hf (decodeAtyp_domain h3), exec_atypDomain_allowed hf hn h3 ha⟩
  case rejected => exact ⟨complete_adTag hf (decodeAtyp_domain h3), exec_atypDomain_rejected hf hn h3 ha⟩
  case unknown => exact complete_adTag_unknown hf h1 h3 h4

/-- A block that waits for a tag with the domain form forbidden runs SADDR: ADDR and REQ allow it (R103). -/
theorem Sound.op_eq_saddr (h : Sound s) (hr : s.rdReq = true) (hf : s.fsm = .adTag) (ha : s.allowDomain = false) : s.op = 0x3 := by
  obtain ⟨hbusy, -, -⟩ := h.open_group hr
  have hallow := h.op.allows hbusy
  obtain h2 | h3 | h4 := h.op.address_op (by rw [hf]; rfl)
  · simp [hallow (.inl h2)] at ha
  · exact h3
  · simp [hallow (.inr h4)] at ha

/-- Settles O23: the operation is SADDR, so the tag is its first byte, and the domain row rejects it. -/
theorem restrictedDecoderTakesOneByte : Obligations.RestrictedDecoderTakesOneByte := by
  intro s h hr hf ha
  have hg : groupSize s = 1 := by rw [groupSize, hf]
  have hop : s.op = 0x3 := h.op_eq_saddr hr hf ha
  have hneed : s.need = 1 := (h.need_gcnt_of_groupSize_one hr hg).1
  have htag : (closeGroup (takeByte 0x03 s)).gbyte 0 = 0x03 := h.gbyte_zero_takeByte hr hg
  have hcount : (takeByte 0x03 s).consumed = 1 := by
    apply BitVec.eq_of_toNat_eq
    rw [h.consumed_takeByte_last hr hneed, hg, groupBase, hf, addressBase_eq_zero (by simp [hop])]
    rfl
  have hfsm : (closeGroup (takeByte 0x03 s)).fsm = .adTag := hf
  rw [onEvent_byte_last hr hneed, complete_adTag hfsm (decodeAtyp_domain htag),
    exec_atypDomain_rejected hfsm (by simp [hneed]) htag ha, ← hcount]
  rfl

/-! ## The bodies -/

/-- `AddrDone()` after the writes of the IPv4 body (R423, R424). -/
theorem complete_adV4 (hf : s.fsm = .adV4) :
    complete s = .next (finish (if s.op = 0x4 then .request else .address)
      { s with rIp4 := copyGroup s 4 s.rIp4, rPort := be16 (s.gbyte 4) (s.gbyte 5) }) := by
  simp only [complete, hf, completeAdV4, addrDone_eq]

theorem complete_adV6A (hf : s.fsm = .adV6A) : complete s = .next (completeAdV6A s) := by
  simp only [complete, hf]

/-- `AddrDone()` after the writes of the IPv6 port (R423, R425). -/
theorem complete_adV6P (hf : s.fsm = .adV6P) :
    complete s = .next (finish (if s.op = 0x4 then .request else .address)
      { s with rPort := be16 (s.gbyte 0) (s.gbyte 1), rFlow := 0, rScope := 0 }) := by
  simp only [complete, hf, completeAdV6P, addrDone_eq]

theorem complete_adDlen (hf : s.fsm = .adDlen) : complete s = .next (completeAdDlen s) := by
  simp only [complete, hf]

/-- `AddrDone()` after the writes of the domain body (R423, R428). -/
theorem complete_adDbody (hf : s.fsm = .adDbody) :
    complete s = .next (finish (if s.op = 0x4 then .request else .address)
      { s with
        rName := copyGroup s s.rDlen.toNat s.rName
        rPort := be16 (s.gbyte s.rDlen.toNat) (s.gbyte (s.rDlen.toNat + 1)) }) := by
  simp only [complete, hf, completeAdDbody, addrDone_eq]

/-- A group as long as the array it is copied to fills the array. -/
theorem copyGroup_full {m : Nat} (dst : Vector Byte m) (i : Fin m) : (copyGroup s m dst)[i] = s.gbyte i.val :=
  (copyGroup_get m dst i.val i.isLt).trans (if_pos i.isLt)

/-- On an ERR result a register outside the status, the count and the error registers reads as invalid (R111). -/
theorem readRes_of_err {r : ResReg} (he : s.resStatus = .err)
    (hr : ¬(r = .resStatus ∨ r = .resConsumed ∨ r = .rErr ∨ r = .rErrArg ∨ r = .rIoCause ∨ r = .rIoErr)) :
    readRes r s = .error .invalidRead :=
  if_neg (mt (valid_of_err he) hr)

/-- Settles O24: the length group is one byte, so that byte is the group's byte 0, and `L + 2` fits the 9 bits of `need`. -/
theorem lengthByteOpensTheBody : Obligations.LengthByteOpensTheBody := by
  intro s b h hr hf
  have hg : groupSize s = 1 := by rw [groupSize, hf]
  have hneed : s.need = 1 := (h.need_gcnt_of_groupSize_one hr hg).1
  have hlen : (closeGroup (takeByte b s)).gbyte 0 = b := h.gbyte_zero_takeByte hr hg
  have hfsm : (closeGroup (takeByte b s)).fsm = .adDlen := hf
  refine ⟨b.zeroExtend 9 + 2, by bv_omega, ?_⟩
  rw [onEvent_byte_last hr hneed, complete_adDlen hfsm, completeAdDlen, hlen]
  rfl

/-- Settles O21: the last byte runs the IPv4 completion, whose state is the one the statement writes out; an EOF raises an IOError. -/
theorem ip4GroupGivesAddressAndPort : Obligations.Ip4GroupGivesAddressAndPort := by
  intro s b h hr hf
  refine ⟨fun hn => ?last, ?short⟩
  case last =>
    have hcount (hop : s.op ≠ 0x4) : (takeByte b s).consumed.toNat = 7 := by
      rw [h.consumed_takeByte_last hr hn]
      simp only [groupBase, groupSize, hf, addressBase_eq_zero hop]
    exact ⟨_, (onEvent_byte_last hr hn).trans (complete_adV4 hf), copyGroup_full _, rfl, hcount, rfl⟩
  case short =>
    exact ⟨_, onEvent_eof hr, rfl, rfl, readRes_of_err rfl (by simp), fun _ => readRes_of_err rfl (by simp)⟩

/-- Settles O22: the address group's last byte enters the port's group, whose last byte ends the operation. -/
theorem ip6GroupsGiveAddressAndPort : Obligations.Ip6GroupsGiveAddressAndPort := by
  intro s b h hr hn
  refine ⟨fun hf => ?address, fun hf => ?port⟩
  case address =>
    exact ⟨_, (onEvent_byte_last hr hn).trans (complete_adV6A hf), copyGroup_full _, rfl⟩
  case port =>
    have hcount (hop : s.op ≠ 0x4) : (takeByte b s).consumed.toNat = 19 := by
      rw [h.consumed_takeByte_last hr hn]
      simp only [groupBase, groupSize, hf, addressBase_eq_zero hop]
    exact ⟨_, (onEvent_byte_last hr hn).trans (complete_adV6P hf), rfl, hcount, rfl⟩

/-- Settles O25: as for O21, with the group's first `L` bytes copied and the rest of the name kept. -/
theorem domainBodyGivesNameAndPort : Obligations.DomainBodyGivesNameAndPort := by
  intro s b h hr hf
  refine ⟨fun hn => ?last, ?short⟩
  case last =>
    have hcount (hop : s.op ≠ 0x4) : (takeByte b s).consumed.toNat = 4 + s.rDlen.toNat := by
      rw [h.consumed_takeByte_last hr hn]
      simp only [groupBase, groupSize, hf, addressBase_eq_zero hop]
      omega
    exact ⟨_, (onEvent_byte_last hr hn).trans (complete_adDbody hf), fun i => copyGroup_get _ _ i.val i.isLt, rfl, hcount, rfl⟩
  case short =>
    exact ⟨_, onEvent_eof hr, rfl, rfl, readRes_of_err rfl (by simp), fun _ => readRes_of_err rfl (by simp)⟩

end Sys2Proof.Machine
end

section
/-! PROOFS. The handshake decoder (42_handshake): the header's dispatch (R451), the shutdown's answers (R452) and the method group
(R453). -/

namespace Sys2Proof.Machine

variable {s : State} {b : Byte}

/-! ## The method group -/

theorem complete_hsMeth (hf : s.fsm = .hsMeth) : complete s = .next (completeHsMeth s) := by
  simp only [complete, hf]

/-- With no methods the completion copies nothing (R152, R453). -/
theorem completeHsMeth_of_rNmeth_zero (h : s.rNmeth = 0) : completeHsMeth s = finish .handshake s := by
  have hcopy : copyGroup s s.rNmeth.toNat s.rMethods = s.rMethods := by rw [h]; exact copyGroup_zero _
  rw [completeHsMeth, hcopy]

/-! ## The header -/

theorem complete_hsHdr_supported (hf : s.fsm = .hsHdr) (h5 : s.gbyte 0 = 0x05) : complete s = exec .hsVer s := by
  simp only [complete, hf, decodeAt, decodeHsVer, h5, Config.supportedVer, if_true]

theorem complete_hsHdr_mismatch (hf : s.fsm = .hsHdr) (h5 : s.gbyte 0 ≠ 0x05) : complete s = .next (hsVersionMismatch s) := by
  simp only [complete, hf, decodeAt, decodeHsVer, h5, Config.supportedVer, if_false]

/-- A method count that is not 0 opens the method group. -/
theorem exec_hsVer_methods (hf : s.fsm = .hsHdr) (hn : s.need = 0) (h5 : s.gbyte 0 = 0x05) (hm : s.gbyte 1 ≠ 0) :
    exec .hsVer s = .next (enter .hsMeth ((s.gbyte 1).zeroExtend 9) (recordHsHeader s)) := by
  have hsize : (s.gbyte 1).zeroExtend 9 ≠ 0 := by bv_omega
  exact (whenDispatched_ready hf hn h5).trans (by rw [enterOrComplete_pos hsize])

/-- An empty method list ends the operation in the header's own step (R152). -/
theorem exec_hsVer_empty (hf : s.fsm = .hsHdr) (hn : s.need = 0) (h5 : s.gbyte 0 = 0x05) (hm : s.gbyte 1 = 0) :
    exec .hsVer s = .next (finish .handshake (enterEmpty .hsMeth (recordHsHeader s))) := by
  have hsize : (s.gbyte 1).zeroExtend 9 = 0 := by rw [hm]; rfl
  have hnone : (enterEmpty .hsMeth (recordHsHeader s)).rNmeth = 0 := hm
  exact (whenDispatched_ready hf hn h5).trans
    (by rw [hsize, enterOrComplete_zero, completeHsMeth_of_rNmeth_zero hnone])

theorem complete_hsHdr_empty (hf : s.fsm = .hsHdr) (hn : s.need = 0) (h5 : s.gbyte 0 = 0x05) (hm : s.gbyte 1 = 0) :
    complete s = .next (finish .handshake (enterEmpty .hsMeth (recordHsHeader s))) :=
  (complete_hsHdr_supported hf h5).trans (exec_hsVer_empty hf hn h5 hm)

/-- Settles O13: the version row `enter`s the method group or, with `N = 0`, `finish`es after `enterEmpty`; another version is
`hsVersionMismatch`. -/
theorem handshakeHeaderDispatch : Obligations.HandshakeHeaderDispatch := by
  intro s hf hn
  refine ⟨exec_hsVer_methods hf hn, fun h5 hm => ?empty, complete_hsHdr_supported hf, complete_hsHdr_mismatch hf⟩
  case empty =>
    rw [exec_hsVer_empty hf hn h5 hm, ← hm]
    rfl

/-! ## The shutdown -/

theorem onEvent_shutOk (hs : s.shutReq = true) :
    onEvent .shutOk s = .next (raise (.socksVersionNoSupport s.rVer) { s with shutReq := false, shutWr := true }) :=
  onEvent_enabled hs

theorem onEvent_shutErr {e : TErr} (hs : s.shutReq = true) :
    onEvent (.shutErr e) s = .next (raise (.ioError (.shutdown e)) { s with shutReq := false }) := onEvent_enabled hs

/-- Settles O19: both answers `raise`, SHUT_OK after it has recorded the closed write side; both are enabled by `shut_req` alone. -/
theorem shutdownAnswersEndTheHandshake : Obligations.ShutdownAnswersEndTheHandshake :=
  fun _ _ => ⟨fun hs => ⟨onEvent_shutOk hs, onEvent_shutErr hs⟩, fun hs => ⟨onEvent_not_enabled hs, onEvent_not_enabled hs⟩⟩

/-! ## The last bytes -/

/-- The last byte of a two-byte group is the group's byte 1, and byte 0 stands as it was taken. -/
theorem Sound.gbytes_takeByte_of_groupSize_two (h : Sound s) (hr : s.rdReq = true) (hn : s.need = 1) (hg : groupSize s = 2) :
    (takeByte b s).gbyte 0 = s.gbyte 0 ∧ (takeByte b s).gbyte 1 = b := by
  obtain ⟨-, -, hsize⟩ := h.open_group hr
  have hneed : s.need.toNat = 1 := congrArg BitVec.toNat hn
  have hone : s.gcnt.toNat = 1 := by omega
  have hfits : s.gcnt.toNat < Config.gbufDepth := by simp [hone]
  constructor <;> simp [gbyte_takeByte b _ hfits, hone]

/-- Settles O20: the method group's last byte runs `completeHsMeth`; with `N = 0` the header's last byte runs the version row, which
ends the operation. -/
theorem methodsAreKeptInOrder : Obligations.MethodsAreKeptInOrder := by
  intro s b h hr hn
  refine ⟨fun hf => ?methods, fun hf h5 hb => ?empty⟩
  case methods =>
    have hcount : (takeByte b s).consumed.toNat = 2 + s.rNmeth.toNat := by
      rw [h.consumed_takeByte_last hr hn]
      simp only [groupBase, groupSize, hf]
    exact ⟨_, (onEvent_byte_last hr hn).trans (complete_hsMeth hf), fun i => copyGroup_get _ _ i.val i.isLt, hcount, rfl⟩
  case empty =>
    have hg : groupSize s = 2 := by rw [groupSize, hf]
    obtain ⟨hver, hnmeth⟩ := h.gbytes_takeByte_of_groupSize_two (b := b) hr hn hg
    have hcount : (takeByte b s).consumed.toNat = 2 := by
      rw [h.consumed_takeByte_last hr hn, hg, groupBase, hf]
    have hend := complete_hsHdr_empty (s := closeGroup (takeByte b s)) hf (by simp [hn]) (hver.trans h5) (hnmeth.trans hb)
    exact ⟨_, (onEvent_byte_last hr hn).trans hend, hnmeth.trans hb, rfl, rfl, rfl, hcount⟩

end Sys2Proof.Machine
end

section
/-! PROOFS. The wire lengths (44_wire_length, R510 to R513). -/

namespace Sys2Proof.Machine

variable {s : State} {v : BitVec 11}

/-! ## The length functions -/

/-- The lengths of the three kinds of address (R510). -/
theorem alen_eq_some {tag : Byte} {n k : Nat}
    (h : (tag = 0x01 ∧ k = 7) ∨ (tag = 0x04 ∧ k = 19) ∨ (tag = 0x03 ∧ k = 4 + n)) : alen tag n = some k := by
  obtain ⟨rfl, rfl⟩ | ⟨rfl, rfl⟩ | ⟨rfl, rfl⟩ := h <;> rfl

/-- The lengths of the three kinds of response header (R511). -/
theorem rlen_eq_some {tag : Byte} {n k : Nat}
    (h : (tag = 0x01 ∧ k = 10) ∨ (tag = 0x04 ∧ k = 22) ∨ (tag = 0x03 ∧ k = 7 + n)) : rlen tag n = some k := by
  obtain ⟨rfl, rfl⟩ | ⟨rfl, rfl⟩ | ⟨rfl, rfl⟩ := h
  case inl | inr.inl => rfl
  case inr.inr => exact congrArg some (show 4 + n + 3 = 7 + n by omega)

/-! ## The operations -/

/-- Widening OPN to 16 bits keeps its value (R302). -/
theorem operandNlen_toNat : s.operandNlen.toNat = s.opn.toNat :=
  BitVec.toNat_setWidth_of_le (by decide)

/-- A length that fits `R_LEN` is written as it is. -/
theorem finishLength_some_toNat : finishLength (some v.toNat) s = finish .length { s with rLen := v } := by
  rw [finishLength, BitVec.ofNat_toNat, BitVec.setWidth_eq]

theorem exec_alen_length (h : s.phase = .idle) (hv : alen s.opb0 s.opn.toNat = some v.toNat) :
    exec .alen s = .next (finish .length { accept 0x7 s with rLen := v }) := by
  rw [exec_alen h, operandNlen_toNat, hv, finishLength_some_toNat]

theorem exec_rlen_length (h : s.phase = .idle) (hv : rlen s.opb0 s.opn.toNat = some v.toNat) :
    exec .rlen s = .next (finish .length { accept 0x8 s with rLen := v }) := by
  rw [exec_rlen h, operandNlen_toNat, hv, finishLength_some_toNat]

/-- Settles O7: the states the statement writes out are `finish` of the accepted state with the length of the tag's kind of address,
and `refuse` of it for a tag no address has. -/
theorem alenGivesAddressLength : Obligations.AlenGivesAddressLength :=
  ⟨rfl, fun _ h => ⟨fun _ hv => exec_alen_length h (alen_eq_some hv), exec_alen_badOperand h⟩⟩

/-- Settles O8: as for O7, with the length of the response header that carries the address. -/
theorem rlenGivesResponseLength : Obligations.RlenGivesResponseLength :=
  ⟨rfl, fun _ h => ⟨fun _ hv => exec_rlen_length h (rlen_eq_some hv), exec_rlen_badOperand h⟩⟩

end Sys2Proof.Machine
end

section
/-! PROOFS. How an operation ends and the block returns to IDLE (60_exceptions, R601, R620 to R623). -/

namespace Sys2Proof.Machine

variable {s t : State}

/-! ## What raising an error writes -/

/-- Settles O27: the payload, the cause and the native error are the ones `raise` writes, old values where the kind has none; and an
ERR result shows the status, the count and the error registers only. -/
theorem raiseWritesTheErrorRegisters : Obligations.RaiseWritesTheErrorRegisters := by
  intro k s
  refine ⟨(raise k s).rErrArg, (raise k s).rIoCause, (raise k s).rIoErr, ?payload, ?cause, rfl,
    fun _ _ h => valid_of_err rfl (valid_of_readRes_ok h)⟩
  case payload => cases k <;> rfl
  case cause =>
    cases k
    case ioError c => cases c <;> exact ⟨rfl, rfl⟩
    all_goals exact ⟨rfl, rfl⟩

/-! ## The returns to IDLE -/

/-- Settles O28: the state the statement writes out is `release s`, and ACK is enabled in DONE only. -/
theorem ackReturnsToIdle : Obligations.AckReturnsToIdle :=
  fun _ => ⟨onEvent_ack, fun h => onEvent_not_enabled (by simp [enabled, h])⟩

theorem enabled_abort_iff : enabled .abort s = true ↔ s.phase ≠ .idle := by
  cases h : s.phase <;> simp [enabled, h]

/-- Settles O29: the state the statement writes out is `onAbort s`, and ABORT is enabled exactly outside IDLE. -/
theorem abortReturnsToIdle : Obligations.AbortReturnsToIdle :=
  fun _ => ⟨fun h => onEvent_enabled (enabled_abort_iff.mpr h),
    fun h => onEvent_not_enabled (by simp [enabled, h])⟩

/-! ## The codes a step can put into `R_ERR` -/

/-- From `s` to `t`, `R_ERR` is kept or takes the code of a kind with an emission path (R601). -/
def KeepsOrEmitsCode (s t : State) : Prop :=
  t.rErr = s.rErr ∨ t.rErr = 1 ∨ t.rErr = 2 ∨ t.rErr = 5 ∨ t.rErr = 10

/-- Every command word is read as a row of the host command table. -/
theorem place_decodeCmd : ∀ w : Byte, place (decodeCmd w) = .hostCmd := by decide +kernel

theorem rErr_finishLength (len : Option Nat) : (finishLength len s).rErr = s.rErr := by
  cases len <;> rfl

/-- A command row raises no error: it opens a group, finishes or refuses. -/
theorem rErr_exec_command {i : Instr} (hi : place i = .hostCmd) (h : exec i s = .next t) : t.rErr = s.rErr := by
  cases i
  case alen | rlen =>
    obtain ⟨-, rfl⟩ := whenIdle_next h
    exact rErr_finishLength _
  case hs | addr | saddr | req | rd16 | rd32 | reserved00 | reserved09 | reserved0A | reserved0C | reserved10 | reserved20
      | reserved40 | reserved80 =>
    obtain ⟨-, rfl⟩ := whenIdle_next h
    rfl
  all_goals cases hi

theorem rErr_enterOrComplete_hsMeth (n : BitVec 9) : (enterOrComplete .hsMeth n completeHsMeth s).rErr = s.rErr := by
  unfold enterOrComplete
  split <;> rfl

/-- A completion raises the kinds 1, 2 and 5 only: a bad version, an address type or a command of no row. -/
theorem complete_keepsOrEmitsCode (h : complete s = .next t) : KeepsOrEmitsCode s t := by
  obtain ⟨-, -, rfl⟩ | ⟨-, -, rfl⟩ | ⟨-, -, -, rfl⟩ | ⟨-, -, rfl⟩ | ⟨-, -, rfl⟩ | ⟨-, -, rfl⟩ | ⟨-, -, rfl⟩ |
    ⟨-, -, -, rfl⟩ | ⟨-, -, -, rfl⟩ | ⟨-, -, rfl⟩ | ⟨-, rfl⟩ | ⟨-, rfl⟩ | ⟨-, rfl⟩ | ⟨-, rfl⟩ | ⟨-, rfl⟩ | ⟨-, rfl⟩ :=
    complete_next h
  · exact .inl (rErr_enterOrComplete_hsMeth _)
  · exact .inl rfl
  · exact .inl rfl
  · exact .inr (.inr (.inr (.inl rfl)))
  · exact .inr (.inl rfl)
  · exact .inl rfl
  · exact .inl rfl
  · exact .inl rfl
  · exact .inr (.inr (.inl rfl))
  · exact .inr (.inr (.inl rfl))
  all_goals exact .inl (by simp)

theorem onByte_keepsOrEmitsCode {b : Byte} (h : onByte b s = .next t) : KeepsOrEmitsCode s t := by
  by_cases hn : s.need = 1
  · exact complete_keepsOrEmitsCode (s := closeGroup (takeByte b s)) ((onByte_last hn).symm.trans h)
  · cases (onByte_more hn).symm.trans h
    exact .inl rfl

/-- Of the events, only the stream's and the shutdown's answers raise an error: kind 1 or an IOError, or what a completion raises. -/
theorem handle_keepsOrEmitsCode {e : Event} (h : handle e s = .next t) : KeepsOrEmitsCode s t := by
  cases e
  case cmd w b0 b1 b2 b3 n => exact .inl (rErr_exec_command (s := latch w b0 b1 b2 b3 n s) (place_decodeCmd w) h)
  case byte b => exact onByte_keepsOrEmitsCode h
  case shutOk =>
    cases h
    exact .inr (.inl rfl)
  case eof | rdErr | shutErr =>
    cases h
    exact .inr (.inr (.inr (.inr rfl)))
  case ack | abort | reset =>
    cases h
    exact .inl rfl

/-- Settles O38: a step is one event handled, with `R_ERR` as it was before the event was taken from the host's list. -/
theorem unemittedKindsAreNeverRaised : Obligations.UnemittedKindsAreNeverRaised := by
  intro s t h
  obtain ⟨_, rest, -, -, hd⟩ := step_next h
  exact handle_keepsOrEmitsCode (s := withHost rest s) hd

end Sys2Proof.Machine
end

section
/-! PROOFS. RESET and `shut_wr` (70_reset, R700): the write side's flag outlives every event but RESET. -/

namespace Sys2Proof.Machine

variable {s t : State}

/-! ## What keeps `shut_wr` -/

theorem shutWr_finishLength (len : Option Nat) : (finishLength len s).shutWr = s.shutWr := by
  cases len <;> rfl

/-- A command row opens a group, finishes or refuses; none of these writes `shut_wr`. -/
theorem shutWr_exec_command {i : Instr} (hi : place i = .hostCmd) (h : exec i s = .next t) : t.shutWr = s.shutWr := by
  cases i
  case alen | rlen =>
    obtain ⟨-, rfl⟩ := whenIdle_next h
    exact shutWr_finishLength _
  case hs | addr | saddr | req | rd16 | rd32 | reserved00 | reserved09 | reserved0A | reserved0C | reserved10 | reserved20
      | reserved40 | reserved80 =>
    obtain ⟨-, rfl⟩ := whenIdle_next h
    rfl
  all_goals cases hi

theorem shutWr_enterOrComplete_hsMeth (n : BitVec 9) : (enterOrComplete .hsMeth n completeHsMeth s).shutWr = s.shutWr := by
  unfold enterOrComplete
  split <;> rfl

/-- No completion writes `shut_wr`: the version mismatch asks for the shutdown, and only its answer confirms it. -/
theorem shutWr_complete (h : complete s = .next t) : t.shutWr = s.shutWr := by
  obtain ⟨-, -, rfl⟩ | ⟨-, -, rfl⟩ | ⟨-, -, -, rfl⟩ | ⟨-, -, rfl⟩ | ⟨-, -, rfl⟩ | ⟨-, -, rfl⟩ | ⟨-, -, rfl⟩ |
    ⟨-, -, -, rfl⟩ | ⟨-, -, -, rfl⟩ | ⟨-, -, rfl⟩ | ⟨-, rfl⟩ | ⟨-, rfl⟩ | ⟨-, rfl⟩ | ⟨-, rfl⟩ | ⟨-, rfl⟩ | ⟨-, rfl⟩ :=
    complete_next h
  · exact shutWr_enterOrComplete_hsMeth _
  all_goals simp [reqCommandUnknown, reqVersionMismatch, adTagUnknown]

theorem shutWr_onByte {b : Byte} (h : onByte b s = .next t) : t.shutWr = s.shutWr := by
  by_cases hn : s.need = 1
  · exact shutWr_complete (s := closeGroup (takeByte b s)) ((onByte_last hn).symm.trans h)
  · cases (onByte_more hn).symm.trans h
    rfl

/-- Everything a handled event can do to `shut_wr`: SHUT_OK sets it, RESET clears it, every other event keeps it (R105, R700). -/
theorem shutWr_handle {e : Event} (h : handle e s = .next t) :
    (e = .shutOk ∧ t.shutWr = true) ∨ (e = .reset ∧ t.shutWr = false) ∨ t.shutWr = s.shutWr := by
  cases e
  case cmd w b0 b1 b2 b3 n =>
    exact .inr (.inr (shutWr_exec_command (s := latch w b0 b1 b2 b3 n s) (place_decodeCmd w) h))
  case byte b => exact .inr (.inr (shutWr_onByte h))
  case shutOk =>
    cases h
    exact .inl ⟨rfl, rfl⟩
  case reset =>
    cases h
    exact .inr (.inl ⟨rfl, rfl⟩)
  case eof | rdErr | shutErr | ack | abort =>
    cases h
    exact .inr (.inr rfl)

/-! ## RESET -/

theorem onEvent_reset : onEvent .reset s = .next (onReset s) := onEvent_enabled rfl

/-- Settles O30: RESET is enabled everywhere and answers `onReset s`, whose fields are the reset table's; and of what an event can do
to `shut_wr`, only RESET's case takes it from set to clear. -/
theorem resetPutsTheResetValues : Obligations.ResetPutsTheResetValues := by
  intro s
  refine ⟨⟨onReset s, onEvent_reset, by simp⟩, fun e t h hset hclear => ?_⟩
  obtain ⟨-, hd⟩ := onEvent_next h
  obtain ⟨-, hok⟩ | ⟨he, -⟩ | hkeep := shutWr_handle hd
  · simp [hok] at hclear
  · exact he
  · simp [hkeep, hset] at hclear

end Sys2Proof.Machine
end

section
/-! PROOFS. The decoder and the encoder (30_encoding sections 1 and 5). -/

namespace Sys2Proof.Machine

/-! ## The host command words: facts about 256 words -/

/-- The masks of the rows that carry their word keep them apart, so a well-formed row's word is decoded to that row. -/
theorem decodeCmd_of_carried : ∀ row ∈ [Instr.reserved0A, .reserved0C, .reserved10, .reserved20, .reserved40, .reserved80],
    ∀ w : Byte, WellFormed (row w) = true → decodeCmd w = row w := by decide +kernel

theorem encode_decodeCmd : ∀ w : Byte, encode (decodeCmd w) = w := by decide +kernel

theorem wellFormed_decodeCmd : ∀ w : Byte, WellFormed (decodeCmd w) = true := by decide +kernel

/-! ## One word at its place -/

/-- An instruction's word, read at its place, is decoded to it: each row by its value, the rows that carry their word by
`decodeCmd_of_carried`. -/
theorem decodeAt_encode (i : Instr) (h : WellFormed i = true) : decodeAt (place i) (encode i) = .ok i := by
  cases i
  case reserved0A w | reserved0C w | reserved10 w | reserved20 w | reserved40 w | reserved80 w =>
    exact congrArg Except.ok (decodeCmd_of_carried _ (by simp) w h)
  all_goals rfl

/-- What a place's decoder answers for a byte is that place's row, well formed, with the byte as its word. -/
theorem encode_of_decodeAt {p : Place} {b : Byte} {i : Instr} (h : decodeAt p b = .ok i) :
    encode i = b ∧ place i = p ∧ WellFormed i = true := by
  cases p
  case hostCmd =>
    cases h
    exact ⟨encode_decodeCmd b, place_decodeCmd b, wellFormed_decodeCmd b⟩
  case hsVer | reqVer | reqCmd | atyp =>
    simp only [decodeAt, decodeHsVer, decodeReqVer, decodeReqCmd, decodeAtyp] at h
    split_ifs at h <;> cases h <;> exact ⟨Eq.symm ‹b = _›, rfl, rfl⟩

/-! ## Decoding and encoding undo each other -/

/-- Settles O1: an instruction is one word, which `decodeAt_encode` reads back at its place. -/
theorem decodeOfEncode : Obligations.DecodeOfEncode := decodeAt_encode

/-- Settles O2: only a sequence of one byte decodes, and then `encode_of_decodeAt` speaks of that byte. -/
theorem encodeOfDecode : Obligations.EncodeOfDecode := by
  intro p bs i h
  match bs, h with
  | [b], h =>
    obtain ⟨hw, hp, hwf⟩ := encode_of_decodeAt h
    exact ⟨by rw [hw], hp, hwf⟩

/-- Settles O3: the row is the one the word decodes to, and another row with the same word is decoded from it too. -/
theorem commandWordHasOneRow : Obligations.CommandWordHasOneRow := by
  intro w
  refine ⟨decodeCmd w, ⟨wellFormed_decodeCmd w, place_decodeCmd w, encode_decodeCmd w⟩, fun j hwf hp hw => ?_⟩
  have hj := decodeAt_encode j hwf
  rw [hp, hw] at hj
  injection hj with hj
  exact hj.symm

/-- Settles O4: each word of the tables computes to its row. -/
theorem tableWordsDecode : Obligations.TableWordsDecode :=
  ⟨rfl, rfl, rfl, rfl, rfl, rfl, rfl, rfl, rfl, rfl, rfl, rfl, rfl, rfl⟩

end Sys2Proof.Machine
end

section
/-! PROOFS. Which meaning a step runs: the command rows (30_encoding section 2, R320) and the dispatching groups of the wire
(43_request_header sections 2 and 3). -/

namespace Sys2Proof.Machine

variable {s t : State}

/-! ## Command rows -/

/-- Settles O9: in IDLE the guard answers the state that `startGroup` opens. -/
theorem streamCommandsOpenTheirGroup : Obligations.StreamCommandsOpenTheirGroup :=
  fun _ h => ⟨whenIdle_idle h, whenIdle_idle h, whenIdle_idle h, whenIdle_idle h⟩

/-- Settles O12: every command row is guarded by `whenIdle`. -/
theorem commandNeedsIdle : Obligations.CommandNeedsIdle := by
  intro i s hi h
  cases i
  case hs | addr | saddr | req | rd16 | rd32 | alen | rlen | reserved00 | reserved09 | reserved0A | reserved0C | reserved10
      | reserved20 | reserved40 | reserved80 => exact whenIdle_not_idle h
  all_goals cases hi

/-! ## The request header's group -/

theorem complete_rqHdr_supported (hf : s.fsm = .rqHdr) (h5 : s.gbyte 0 = 0x05) : complete s = exec .reqVer s := by
  simp only [complete, hf, decodeAt, decodeReqVer, h5, Config.supportedVer, if_true]

theorem complete_rqHdr_mismatch (hf : s.fsm = .rqHdr) (h5 : s.gbyte 0 ≠ 0x05) : complete s = .next (reqVersionMismatch s) := by
  simp only [complete, hf, decodeAt, decodeReqVer, h5, Config.supportedVer, if_false]

/-- A supported version is followed by the command check (R482, R485). -/
theorem exec_reqVer (hf : s.fsm = .rqHdr) (hn : s.need = 0) (h5 : s.gbyte 0 = 0x05) : exec .reqVer s = dispatchCommand s :=
  if_pos ⟨hf, hn, h5⟩

theorem whenCommand_ready {c : Byte} (hf : s.fsm = .rqHdr) (hn : s.need = 0) (h5 : s.gbyte 0 = 0x05) (hc : s.gbyte 1 = c) :
    whenCommand c s t = .next t := (if_pos h5).trans (whenDispatched_ready hf hn hc)

/-- Each of the three commands records the header and opens the tag's group. -/
theorem dispatchCommand_known (hf : s.fsm = .rqHdr) (hn : s.need = 0) (h5 : s.gbyte 0 = 0x05)
    (hc : s.gbyte 1 = 0x01 ∨ s.gbyte 1 = 0x02 ∨ s.gbyte 1 = 0x03) : dispatchCommand s = .next (recordReqHeader s) := by
  unfold dispatchCommand
  obtain hc | hc | hc := hc <;>
    simpa [hc, execReqCmdConnect, execReqCmdBind, execReqCmdUdpAssociate] using whenCommand_ready hf hn h5 hc

theorem dispatchCommand_unknown (h1 : s.gbyte 1 ≠ 0x01) (h2 : s.gbyte 1 ≠ 0x02) (h3 : s.gbyte 1 ≠ 0x03) :
    dispatchCommand s = .next (reqCommandUnknown s) := by
  simp only [dispatchCommand, h1, h2, h3, if_false]

theorem complete_rqHdr_command (hf : s.fsm = .rqHdr) (hn : s.need = 0) (h5 : s.gbyte 0 = 0x05)
    (hc : s.gbyte 1 = 0x01 ∨ s.gbyte 1 = 0x02 ∨ s.gbyte 1 = 0x03) : complete s = .next (recordReqHeader s) :=
  (complete_rqHdr_supported hf h5).trans ((exec_reqVer hf hn h5).trans (dispatchCommand_known hf hn h5 hc))

theorem complete_rqHdr_unknown (hf : s.fsm = .rqHdr) (hn : s.need = 0) (h5 : s.gbyte 0 = 0x05) (h1 : s.gbyte 1 ≠ 0x01)
    (h2 : s.gbyte 1 ≠ 0x02) (h3 : s.gbyte 1 ≠ 0x03) : complete s = .next (reqCommandUnknown s) :=
  (complete_rqHdr_supported hf h5).trans ((exec_reqVer hf hn h5).trans (dispatchCommand_unknown h1 h2 h3))

/-- Settles O14: the states the statement writes out are `recordReqHeader` and the two `raise`s; the version row runs the command
check, which runs the command's row. -/
theorem requestHeaderDispatch : Obligations.RequestHeaderDispatch := by
  intro s hf hn
  refine ⟨?known, ?unknown, complete_rqHdr_mismatch hf⟩
  case known =>
    rintro i hi _ rfl h5 hc
    obtain ⟨hexec, hcmd⟩ : exec i s = .next (recordReqHeader s) ∧ (s.gbyte 1 = 0x01 ∨ s.gbyte 1 = 0x02 ∨ s.gbyte 1 = 0x03) := by
      simp only [List.mem_cons, List.not_mem_nil, or_false] at hi
      obtain rfl | rfl | rfl := hi
      · exact ⟨whenCommand_ready hf hn h5 hc, .inl hc⟩
      · exact ⟨whenCommand_ready hf hn h5 hc, .inr (.inl hc)⟩
      · exact ⟨whenCommand_ready hf hn h5 hc, .inr (.inr hc)⟩
    exact ⟨hexec, (exec_reqVer hf hn h5).trans (dispatchCommand_known hf hn h5 hcmd),
      complete_rqHdr_command hf hn h5 hcmd⟩
  case unknown =>
    rintro _ rfl h5 h1 h2 h3
    exact ⟨(exec_reqVer hf hn h5).trans (dispatchCommand_unknown h1 h2 h3), complete_rqHdr_unknown hf hn h5 h1 h2 h3⟩

/-! ## The step -/

/-- A dispatching group runs the row its first byte decodes to. -/
theorem complete_of_decode {i : Instr}
    (h : s.fsm = .hsHdr ∧ decode .hsVer [s.gbyte 0] = .ok i ∨ s.fsm = .rqHdr ∧ decode .reqVer [s.gbyte 0] = .ok i ∨
      s.fsm = .adTag ∧ decode .atyp [s.gbyte 0] = .ok i) : complete s = exec i s := by
  unfold complete
  obtain ⟨hf, hd⟩ | ⟨hf, hd⟩ | ⟨hf, hd⟩ := h <;> rw [decode] at hd <;> simp only [hf, hd]

/-- Settles O32: the step takes the first event of the list; a command runs the row of its word, and a last byte the completion of
its group. -/
theorem stepRunsTheDecodedInstruction : Obligations.StepRunsTheDecodedInstruction := by
  refine ⟨fun s w b0 b1 b2 b3 n rest i hh hp hd => ?command, fun s b rest i hh hr hn hd => ?dispatch⟩
  case command =>
    cases hd
    exact (step_cons hh).trans (onEvent_cmd_idle (s := withHost rest s) hp)
  case dispatch =>
    rw [step_cons hh, onEvent_byte_last (s := withHost rest s) hr hn]
    exact complete_of_decode (s := closeGroup (takeByte b (withHost rest s))) hd

end Sys2Proof.Machine
end

section
/-! PROOFS. What every step keeps of the flags and of the stream's position (10_state sections 3 and 6, R105, R106, R211). -/

namespace Sys2Proof.Machine

variable {s t : State}

/-! ## Everything a command can do -/

/-- The longest address a 10-bit name length allows (R510). -/
theorem alen_le {tag : Byte} {n k : Nat} (hn : n ≤ 1023) (h : alen tag n = some k) : k ≤ 1027 := by
  unfold alen at h
  split_ifs at h <;> injection h <;> omega

theorem rlen_le {tag : Byte} {n k : Nat} (hn : n ≤ 1023) (h : rlen tag n = some k) : k ≤ 1030 := by
  obtain ⟨j, hj, rfl⟩ := Option.map_eq_some_iff.mp h
  have := alen_le hn hj
  omega

theorem operandNlen_le : s.operandNlen.toNat ≤ 1023 := by
  have := s.opn.isLt
  rw [operandNlen_toNat]
  omega

/-- The two ends of a length operation with the number `c`: refused, or with a length a result may hold (R512, R513). -/
def LengthEnd (c : BitVec 4) (s t : State) : Prop :=
  t = refuse .badOperand (accept c s) ∨
    ∃ v : BitVec 11, v.toNat ≤ 1030 ∧ t = finish .length { accept c s with rLen := v }

theorem lengthEnd_finishLength {c : BitVec 4} {len : Option Nat} (hlen : ∀ k, len = some k → k ≤ 1030) :
    LengthEnd c s (finishLength len (accept c s)) := by
  cases len with
  | none => exact .inl rfl
  | some k => exact .inr ⟨BitVec.ofNat 11 k, (Nat.mod_le _ _).trans (hlen k rfl), rfl⟩

/-- Everything a command row can answer: one of the four first groups opens, the operation ends at once, or it is refused. -/
theorem exec_command_next {i : Instr} (hi : place i = .hostCmd) (h : exec i s = .next t) :
    s.phase = .idle ∧
      (t = startGroup .hsHdr 2 (accept 0x1 s) ∨
        t = startGroup .adTag 1 { accept 0x2 s with allowDomain := true } ∨
        t = startGroup .adTag 1 { accept 0x3 s with allowDomain := false } ∨
        t = startGroup .rqHdr 3 { accept 0x4 s with allowDomain := true } ∨
        t = finish .u16 { accept 0x5 s with rU16 := s.operand16 } ∨
        t = finish .u32 { accept 0x6 s with rU32 := s.operand32 } ∨
        LengthEnd 0x7 s t ∨ LengthEnd 0x8 s t ∨ t = refuse .reservedOp s) := by
  cases i
  case hs | addr | saddr | req | rd16 | rd32 | reserved00 | reserved09 | reserved0A | reserved0C | reserved10 | reserved20
      | reserved40 | reserved80 =>
    obtain ⟨hp, rfl⟩ := whenIdle_next h
    exact ⟨hp, by simp⟩
  case alen =>
    obtain ⟨hp, rfl⟩ := whenIdle_next h
    have hend : LengthEnd 0x7 s (finishLength (alen s.operandAtyp s.operandNlen.toNat) (accept 0x7 s)) :=
      lengthEnd_finishLength fun k hk => (alen_le operandNlen_le hk).trans (by decide)
    exact ⟨hp, by simp only [hend, true_or, or_true]⟩
  case rlen =>
    obtain ⟨hp, rfl⟩ := whenIdle_next h
    have hend : LengthEnd 0x8 s (finishLength (rlen s.operandAtyp s.operandNlen.toNat) (accept 0x8 s)) :=
      lengthEnd_finishLength fun k hk => rlen_le operandNlen_le hk
    exact ⟨hp, by simp only [hend, true_or, or_true]⟩
  all_goals cases hi

/-! ## What a command and a completion leave alone -/

/-- No command row moves the stream or takes an event. -/
theorem exec_command_frame {i : Instr} (hi : place i = .hostCmd) (h : exec i s = .next t) :
    t.streamPos = s.streamPos ∧ t.host = s.host := by
  obtain ⟨-, rfl | rfl | rfl | rfl | rfl | rfl | (rfl | ⟨v, -, rfl⟩) | (rfl | ⟨v, -, rfl⟩) | rfl⟩ := exec_command_next hi h <;>
    exact ⟨rfl, rfl⟩

/-- A completion counts no byte, takes no event, and writes neither the buffer nor a native error: the byte was stored and counted
when it was taken (R211). -/
theorem complete_frame (h : complete s = .next t) :
    t.consumed = s.consumed ∧ t.streamPos = s.streamPos ∧ t.host = s.host ∧ t.gbuf = s.gbuf ∧ t.rIoErr = s.rIoErr := by
  obtain ⟨-, -, rfl⟩ | ⟨-, -, rfl⟩ | ⟨-, -, -, rfl⟩ | ⟨-, -, rfl⟩ | ⟨-, -, rfl⟩ | ⟨-, -, rfl⟩ | ⟨-, -, rfl⟩ |
    ⟨-, -, -, rfl⟩ | ⟨-, -, -, rfl⟩ | ⟨-, -, rfl⟩ | ⟨-, rfl⟩ | ⟨-, rfl⟩ | ⟨-, rfl⟩ | ⟨-, rfl⟩ | ⟨-, rfl⟩ | ⟨-, rfl⟩ :=
    complete_next h
  · unfold enterOrComplete
    split <;> exact ⟨rfl, rfl, rfl, rfl, rfl⟩
  all_goals simp [reqCommandUnknown, reqVersionMismatch, adTagUnknown, Err.cause?]

theorem onByte_frame {b : Byte} (h : onByte b s = .next t) :
    t.consumed = s.consumed + 1 ∧ t.streamPos = s.streamPos + 1 ∧ t.host = s.host := by
  by_cases hn : s.need = 1
  · obtain ⟨hcount, hpos, hhost, -, -⟩ := complete_frame (s := closeGroup (takeByte b s)) ((onByte_last hn).symm.trans h)
    exact ⟨hcount, hpos, hhost⟩
  · cases (onByte_more hn).symm.trans h
    exact ⟨rfl, rfl, rfl⟩

/-- Settles O40: of the events only BYTE, by `takeByte`, and RESET write the position; commands and completions leave it alone. -/
theorem onlyBytesMoveTheStream : Obligations.OnlyBytesMoveTheStream := by
  intro s t e h
  obtain ⟨-, hd⟩ := onEvent_next h
  cases e
  case cmd w b0 b1 b2 b3 n => exact (exec_command_frame (s := latch w b0 b1 b2 b3 n s) (place_decodeCmd w) hd).1
  case byte b => exact (onByte_frame hd).2.1
  all_goals
    cases hd
    rfl

/-- Settles O39: of what an event can do to `shut_wr`, only RESET's case clears it and only SHUT_OK's sets it. -/
theorem shutWrChangesOnlyByShutOkAndReset : Obligations.ShutWrChangesOnlyByShutOkAndReset := by
  intro s t h
  obtain ⟨e, rest, hh, -, hd⟩ := step_next h
  obtain ⟨rfl, ht⟩ | ⟨rfl, ht⟩ | ht := shutWr_handle hd
  · exact ⟨fun _ hclear => by simp [ht] at hclear, fun _ _ => ⟨rest, hh⟩⟩
  · exact ⟨fun _ _ => ⟨rest, hh⟩, fun _ hset => by simp [ht] at hset⟩
  · exact ⟨fun hset hclear => by simp [ht, hset] at hclear, fun hclear hset => by simp [ht, hclear] at hset⟩

/-! ## The flag invariants -/

/-- A block that is not BUSY keeps the flag invariants by asking for nothing. -/
theorem flagsOk_quiet (hp : s.phase ≠ .busy) (hr : s.rdReq = false) (hs : s.shutReq = false) : FlagsOk s := by
  constructor <;> simp [*]

/-- A BUSY block that asks for a byte its group misses keeps them. -/
theorem flagsOk_reading (hp : s.phase = .busy) (hr : s.rdReq = true) (hs : s.shutReq = false) (hn : s.need ≠ 0) : FlagsOk s := by
  have hpos : 0 < s.need.toNat := by bv_omega
  constructor <;> simp [*]

/-- A BUSY block that asks for the shutdown keeps them. -/
theorem flagsOk_shutting (hp : s.phase = .busy) (hr : s.rdReq = false) (hs : s.shutReq = true) (hf : s.fsm = .hsShut) :
    FlagsOk s := by
  constructor <;> simp [*]

/-- Outside BUSY the block asks for nothing. -/
theorem FlagsOk.quiet (h : FlagsOk s) (hp : s.phase ≠ .busy) : s.rdReq = false ∧ s.shutReq = false := by
  constructor <;> rw [← Bool.not_eq_true]
  · exact fun hr => hp (h.rdReq_busy hr).1
  · exact fun hs => hp (h.shutReq_busy hs).1

/-- A block that asks for a byte asks for no shutdown. -/
theorem FlagsOk.shutReq_eq_false (h : FlagsOk s) (hr : s.rdReq = true) : s.shutReq = false := by
  simpa [hr] using h.not_both

theorem flagsOk_withHost {events : List Event} (h : FlagsOk s) : FlagsOk (withHost events s) :=
  ⟨h.rdReq_busy, h.shutReq_busy, h.not_both, h.busy_waits⟩

theorem flagsOk_raise {k : Err} : FlagsOk (raise k s) := flagsOk_quiet (by simp) rfl rfl

theorem flagsOk_finish {k : Kind} : FlagsOk (finish k s) := flagsOk_quiet (by simp) rfl rfl

theorem flagsOk_refuse {r : RefuseReason} : FlagsOk (refuse r s) := flagsOk_quiet (by simp) rfl rfl

/-- Opening a group that is not empty, in BUSY, keeps the flag invariants (R152). -/
theorem flagsOk_enter {f : Fsm} {n : BitVec 9} (hp : s.phase = .busy) (hs : s.shutReq = false) (hn : n ≠ 0) :
    FlagsOk (enter f n s) := flagsOk_reading hp rfl hs hn

/-- A command opens a group that is not empty, or ends. -/
theorem exec_command_flagsOk {i : Instr} (hi : place i = .hostCmd) (hflags : FlagsOk s) (h : exec i s = .next t) : FlagsOk t := by
  obtain ⟨hp, hend⟩ := exec_command_next hi h
  have hs : s.shutReq = false := (hflags.quiet (by simp [hp])).2
  obtain rfl | rfl | rfl | rfl | rfl | rfl | (rfl | ⟨v, -, rfl⟩) | (rfl | ⟨v, -, rfl⟩) | rfl := hend
  case inl | inr.inl | inr.inr.inl | inr.inr.inr.inl => exact flagsOk_enter rfl hs (by decide)
  case inr.inr.inr.inr.inl | inr.inr.inr.inr.inr.inl => exact flagsOk_finish
  · exact flagsOk_refuse
  · exact flagsOk_finish
  · exact flagsOk_refuse
  · exact flagsOk_finish
  · exact flagsOk_refuse

/-- A completion opens the next group, never empty, asks for the shutdown, or ends the operation. -/
theorem complete_flagsOk (hp : s.phase = .busy) (hr : s.rdReq = false) (hs : s.shutReq = false) (h : complete s = .next t) :
    FlagsOk t := by
  obtain ⟨-, -, rfl⟩ | ⟨-, -, rfl⟩ | ⟨-, -, -, rfl⟩ | ⟨-, -, rfl⟩ | ⟨-, -, rfl⟩ | ⟨-, -, rfl⟩ | ⟨-, -, rfl⟩ |
    ⟨-, -, -, rfl⟩ | ⟨-, -, -, rfl⟩ | ⟨-, -, rfl⟩ | ⟨-, rfl⟩ | ⟨-, rfl⟩ | ⟨-, rfl⟩ | ⟨-, rfl⟩ | ⟨-, rfl⟩ | ⟨-, rfl⟩ :=
    complete_next h
  · unfold enterOrComplete
    split
    · exact flagsOk_finish
    · exact flagsOk_enter hp hs ‹_›
  · exact flagsOk_shutting hp hr rfl rfl
  · exact flagsOk_enter hp hs (by decide)
  · exact flagsOk_raise
  · exact flagsOk_raise
  · exact flagsOk_enter hp hs (by decide)
  · exact flagsOk_enter hp hs (by decide)
  · exact flagsOk_enter hp hs (by decide)
  · exact flagsOk_raise
  · exact flagsOk_raise
  · exact flagsOk_finish
  · exact flagsOk_quiet (by simp) (by simp) (by simp)
  · exact flagsOk_enter hp hs (by decide)
  · exact flagsOk_quiet (by simp) (by simp) (by simp)
  · exact flagsOk_enter hp hs (by bv_omega)
  · exact flagsOk_quiet (by simp) (by simp) (by simp)

theorem onByte_flagsOk {b : Byte} (hflags : FlagsOk s) (hr : s.rdReq = true) (h : onByte b s = .next t) : FlagsOk t := by
  obtain ⟨hp, hpos⟩ := hflags.rdReq_busy hr
  have hs := hflags.shutReq_eq_false hr
  by_cases hn : s.need = 1
  · exact complete_flagsOk (s := closeGroup (takeByte b s)) hp rfl hs ((onByte_last hn).symm.trans h)
  · cases (onByte_more hn).symm.trans h
    have hmore : s.need - 1 ≠ 0 := by bv_omega
    exact flagsOk_reading hp hr hs hmore

theorem handle_flagsOk {e : Event} (hflags : FlagsOk s) (he : enabled e s = true) (h : handle e s = .next t) : FlagsOk t := by
  cases e
  case cmd w b0 b1 b2 b3 n =>
    have hlatch : FlagsOk (latch w b0 b1 b2 b3 n s) :=
      ⟨hflags.rdReq_busy, hflags.shutReq_busy, hflags.not_both, hflags.busy_waits⟩
    exact exec_command_flagsOk (place_decodeCmd w) hlatch h
  case byte b => exact onByte_flagsOk hflags he h
  case ack =>
    cases h
    have hdone : s.phase = .done := by simpa [enabled] using he
    obtain ⟨hr, hs⟩ := hflags.quiet (by simp [hdone])
    exact flagsOk_quiet (s := release s) (by simp) hr hs
  case eof | rdErr | shutOk | shutErr =>
    cases h
    exact flagsOk_raise
  case abort | reset =>
    cases h
    exact flagsOk_quiet (by simp) rfl rfl

/-- Settles O35: a step is one enabled event handled; it leaves the block reading a group that is not empty, waiting for the
shutdown, or asking for nothing outside BUSY. -/
theorem stepKeepsTheFlagInvariants : Obligations.StepKeepsTheFlagInvariants := by
  intro s t hflags h
  obtain ⟨e, rest, -, he, hd⟩ := step_next h
  exact handle_flagsOk (flagsOk_withHost hflags) he hd

end Sys2Proof.Machine
end

section
/-! PROOFS. The invariant of the block (Safety.Sound; 10_state sections 3, 5 and 7): it holds after reset, and every step
keeps it. -/

namespace Sys2Proof.Machine

variable {s t : State}

/-- Settles O34: the reset state is idle with its operation registers clear. -/
theorem resetStateIsSound : Obligations.ResetStateIsSound :=
  sound_idle rfl rfl rfl rfl ⟨rfl, rfl, rfl, rfl, rfl⟩ rfl rfl

/-! ## Commands -/

/-- What an idle block holds when a command starts its operation. -/
structure IdleClear (s : State) : Prop where
  phase : s.phase = .idle
  rdReq : s.rdReq = false
  shutReq : s.shutReq = false
  op : s.op = 0
  allowDomain : s.allowDomain = false
  consumed : s.consumed = 0
  status : s.resStatus = .none
  kind : s.resKind = .none

theorem Sound.idleClear (h : Sound s) (hp : s.phase = .idle) : IdleClear s := by
  obtain ⟨hr, hs⟩ := h.flags.quiet (by simp [hp])
  obtain ⟨hop, ha, -, -, hc⟩ := h.op.idle_clear hp
  have hst : s.resStatus = .none := h.result.status_iff.mpr (by simp [hp])
  exact ⟨hp, hr, hs, hop, ha, hc, hst, h.result.kind_ok (by simp [hst])⟩

/-- The first group of an operation, opened in a block that has no result: nothing is counted yet (R152, R320). -/
theorem sound_startGroup {f : Fsm} {n : BitVec 9} (hn : n ≠ 0) (hs : s.shutReq = false) (hc : s.consumed = 0)
    (hst : s.resStatus = .none) (hk : s.resKind = .none) (hop : OpOk (startGroup f n s))
    (hsize : n.toNat = groupSize (startGroup f n s)) (hf : f = .hsHdr ∨ f = .rqHdr ∨ f = .adTag ∧ s.op ≠ 0x4) :
    Sound (startGroup f n s) := by
  have hpos : 0 < n.toNat := by bv_omega
  have hbase : groupBase (startGroup f n s) = 0 := by
    obtain rfl | rfl | ⟨rfl, hne⟩ := hf
    · rfl
    · rfl
    · exact if_neg hne
  have hheader : HeaderOk (startGroup f n s) := by
    obtain rfl | rfl | ⟨rfl, hne⟩ := hf <;> constructor <;> simp [Fsm.inAddress]
    exact fun h4 => absurd h4 hne
  have hfsm : f ≠ .none ∧ f ≠ .hsShut := by
    obtain rfl | rfl | ⟨rfl, -⟩ := hf <;> simp
  exact sound_open rfl rfl hs hpos hfsm.1 hfsm.2 hop ((Nat.zero_add _).trans hsize) (by simp [hc, hbase]) (by simp [hc]) hheader hst
    hk

/-- The operation registers of the four starts (R102, R103). -/
theorem opOk_startGroup {f : Fsm} {n : BitVec 9}
    (h : f = .hsHdr ∧ s.op = 0x1 ∨ f = .rqHdr ∧ s.op = 0x4 ∧ s.allowDomain = true ∨
      f = .adTag ∧ (s.op = 0x2 ∧ s.allowDomain = true ∨ s.op = 0x3 ∧ s.allowDomain = false)) : OpOk (startGroup f n s) := by
  obtain ⟨rfl, hop⟩ | ⟨rfl, hop, ha⟩ | ⟨rfl, ⟨hop, ha⟩ | ⟨hop, ha⟩⟩ := h <;> constructor <;>
    simp [Fsm.inHandshake, Fsm.inAddress, *]

/-- A length operation ends in a sound state. -/
theorem LengthEnd.sound {c : BitVec 4} (h : LengthEnd c s t) (hs : IdleClear s) (hc : c = 0x7 ∨ c = 0x8) : Sound t := by
  have hop : (accept c s).op.toNat ≤ 8 := by
    obtain rfl | rfl := hc <;> simp
  obtain rfl | ⟨v, hv, rfl⟩ := h
  · exact sound_refuse hop (by simp) hs.kind
  · exact sound_finish hop (by simp) ⟨hc, rfl, hv⟩

theorem exec_command_sound {i : Instr} (hi : place i = .hostCmd) (hs : IdleClear s) (h : exec i s = .next t) : Sound t := by
  obtain ⟨-, rfl | rfl | rfl | rfl | rfl | rfl | hend | hend | rfl⟩ := exec_command_next hi h
  · exact sound_startGroup (by decide) hs.shutReq rfl hs.status hs.kind (opOk_startGroup (.inl ⟨rfl, rfl⟩)) rfl (.inl rfl)
  · exact sound_startGroup (by decide) hs.shutReq rfl hs.status hs.kind
      (opOk_startGroup (.inr (.inr ⟨rfl, .inl ⟨rfl, rfl⟩⟩))) rfl (.inr (.inr ⟨rfl, by simp⟩))
  · exact sound_startGroup (by decide) hs.shutReq rfl hs.status hs.kind
      (opOk_startGroup (.inr (.inr ⟨rfl, .inr ⟨rfl, rfl⟩⟩))) rfl (.inr (.inr ⟨rfl, by simp⟩))
  · exact sound_startGroup (by decide) hs.shutReq rfl hs.status hs.kind
      (opOk_startGroup (.inr (.inl ⟨rfl, rfl, rfl⟩))) rfl (.inr (.inl rfl))
  · exact sound_finish (s := { accept 0x5 s with rU16 := s.operand16 }) (by simp) (by simp) ⟨rfl, rfl⟩
  · exact sound_finish (s := { accept 0x6 s with rU32 := s.operand32 }) (by simp) (by simp) ⟨rfl, rfl⟩
  · exact hend.sound hs (.inl rfl)
  · exact hend.sound hs (.inr rfl)
  · exact sound_refuse (by simp [hs.op]) (by simp [hs.consumed]) hs.kind

/-! ## Completions -/

/-- A sound block in which the last byte of a group has just been taken. -/
structure GroupDone (s : State) : Prop where
  busy : s.phase = .busy
  rdReq : s.rdReq = false
  shutReq : s.shutReq = false
  need : s.need = 0
  op : OpOk s
  header : HeaderOk s
  counted : s.consumed.toNat = groupBase s + groupSize s
  status : s.resStatus = .none
  kind : s.resKind = .none

theorem Sound.status_none (h : Sound s) (hp : s.phase ≠ .done) : s.resStatus = .none := h.result.status_iff.mpr hp

theorem Sound.kind_none (h : Sound s) (hp : s.phase ≠ .done) : s.resKind = .none :=
  h.result.kind_ok (by simp [h.status_none hp])

/-- With its last byte a group of a sound block is done: that byte writes no register but the group's. -/
theorem Sound.groupDone {b : Byte} (h : Sound s) (hr : s.rdReq = true) (hn : s.need = 1) :
    GroupDone (closeGroup (takeByte b s)) where
  busy := (h.open_group hr).1
  rdReq := rfl
  shutReq := h.flags.shutReq_eq_false hr
  need := by simp [hn]
  op := ⟨h.op.op_le, fun hp => by simp [(h.open_group hr).1] at hp, h.op.handshake_op, h.op.header_op, h.op.address_op, h.op.allows,
    h.op.forbids⟩
  header := ⟨h.header.methods_ver, h.header.shut_ver, h.header.request_header, h.header.ip4_tag, h.header.ip6_tag,
    h.header.domain_tag⟩
  counted := h.consumed_takeByte_last (b := b) hr hn
  status := h.status_none (by simp [(h.open_group hr).1])
  kind := h.kind_none (by simp [(h.open_group hr).1])

theorem GroupDone.consumed_le (h : GroupDone s) : s.consumed.toNat ≤ 262 := h.counted ▸ group_fits s

/-- An operation that ends, at a completed group, with one of its own errors leaves a sound state. -/
theorem GroupDone.sound_raise {k : Err} (h : GroupDone s) (hf : raiseFits k s.op s.shutWr) : Sound (raise k s) :=
  Machine.sound_raise h.op.op_le h.consumed_le h.kind hf

/-- A tag that is rejected is rejected by an operation that decodes an address (R422, R429). -/
theorem GroupDone.sound_raise_tag {v : Byte} (h : GroupDone s) (hf : s.fsm = .adTag) :
    Sound (raise (.addressTypeNotSupported v) (recordTag v s)) := by
  have hop : s.op = 0x2 ∨ s.op = 0x3 ∨ s.op = 0x4 := h.op.address_op (by rw [hf]; rfl)
  exact Machine.sound_raise (s := recordTag v s) h.op.op_le h.consumed_le h.kind (.inr (.inl ⟨v, rfl, hop⟩))

/-- The tag register a group of the address decoder needs (R422), in an operation `op`. -/
def tagFits (f : Fsm) (tag : Byte) (op : BitVec 4) : Prop :=
  (f = .adV4 ∧ tag = 0x01) ∨ ((f = .adV6A ∨ f = .adV6P) ∧ tag = 0x04) ∨ ((f = .adDlen ∨ f = .adDbody) ∧ tag = 0x03 ∧ op ≠ 0x3)

theorem tagFits.inAddress {f : Fsm} {tag : Byte} {op : BitVec 4} (h : tagFits f tag op) : f.inAddress = true := by
  obtain ⟨rfl, -⟩ | ⟨rfl | rfl, -⟩ | ⟨rfl | rfl, -⟩ := h <;> rfl

/-- Within an address the header registers are the request's and the tag's (R422, R482). -/
theorem headerOk_of_tagFits (htag : tagFits s.fsm s.rAtyp s.op)
    (hreq : s.op = 0x4 → s.rVer = Config.supportedVer ∧ isCommand s.rCmd) : HeaderOk s := by
  obtain ⟨hf, ht⟩ | ⟨hf | hf, ht⟩ | ⟨hf | hf, ht⟩ := htag <;> constructor <;> simp_all

/-- From one group of the address decoder to the next: the operation and the header stay, and the bytes so far are the next group's
base. -/
theorem GroupDone.sound_enter_address {f : Fsm} {n : BitVec 9} {tag len : Byte} {ip : Vector Byte 16} (h : GroupDone s)
    (hf : s.fsm.inAddress = true) (htag : tagFits f tag s.op) (hn : n ≠ 0)
    (hsize : n.toNat = groupSize (enter f n { s with rAtyp := tag, rDlen := len, rIp6 := ip }))
    (hbase : groupBase s + groupSize s = groupBase (enter f n { s with rAtyp := tag, rDlen := len, rIp6 := ip })) :
    Sound (enter f n { s with rAtyp := tag, rDlen := len, rIp6 := ip }) := by
  have hpos : 0 < n.toNat := by bv_omega
  have hin := htag.inAddress
  have hop : OpOk (enter f n { s with rAtyp := tag, rDlen := len, rIp6 := ip }) := by
    refine ⟨h.op.op_le, ?_, ?_, ?_, fun _ => h.op.address_op hf, h.op.allows, h.op.forbids⟩
    · simp [h.busy]
    · cases f <;> simp_all [Fsm.inAddress, Fsm.inHandshake]
    · cases f <;> simp_all [Fsm.inAddress]
  have hheader : HeaderOk (enter f n { s with rAtyp := tag, rDlen := len, rIp6 := ip }) :=
    headerOk_of_tagFits htag (h.header.request_header hf)
  refine sound_open h.busy rfl h.shutReq hpos ?_ ?_ hop ?_ ?_ h.consumed_le hheader h.status h.kind
  · rintro rfl; simp [Fsm.inAddress] at hin
  · rintro rfl; simp [Fsm.inAddress] at hin
  · exact (Nat.zero_add _).trans hsize
  · exact h.counted.trans hbase

/-- The end of an address: the result is of the operation's kind, and the bytes taken are its wire length (R423, R431, R481). -/
theorem GroupDone.sound_addrDone {flow scope : BitVec 32} {port : BitVec 16} {ip4 : Vector Byte 4} {name : Vector Byte 255}
    (h : GroupDone s) (hf : s.fsm.inAddress = true) (hop3 : s.op = 0x3 → s.rAtyp ≠ 0x03)
    (haddr : AddressResultOk { s with rIp4 := ip4, rFlow := flow, rScope := scope, rName := name, rPort := port })
    (hlen : groupBase s + groupSize s = addressBase s + resultLen s) :
    Sound (addrDone { s with rIp4 := ip4, rFlow := flow, rScope := scope, rName := name, rPort := port }) := by
  obtain ⟨htag, hzeros⟩ := haddr
  rw [addrDone_eq]
  refine sound_finish h.op.op_le h.consumed_le ?_
  have hcount : s.consumed.toNat = addressBase s + resultLen s := h.counted.trans hlen
  by_cases h4 : s.op = 0x4
  · obtain ⟨hver, hcmd⟩ := h.header.request_header hf h4
    rw [addressBase, if_pos h4] at hcount
    rw [if_pos h4]
    exact ⟨h4, hver, hcmd, ⟨htag, hzeros⟩, hcount⟩
  · rw [addressBase, if_neg h4, Nat.zero_add] at hcount
    rw [if_neg h4]
    have hop : s.op = 0x2 ∨ s.op = 0x3 ∧ s.rAtyp ≠ 0x03 := by
      obtain h2 | h3 | h4' := h.op.address_op hf
      · exact .inl h2
      · exact .inr ⟨h3, hop3 h3⟩
      · exact absurd h4' h4
    exact ⟨hop, ⟨htag, hzeros⟩, hcount⟩

theorem GroupDone.consumed_eq_two (h : GroupDone s) (hf : s.fsm = .hsHdr) : s.consumed.toNat = 2 := by
  simp [h.counted, groupBase, groupSize, hf]

/-- The method group opens behind the two bytes of the header (R451). -/
theorem GroupDone.sound_enter_methods (h : GroupDone s) (hf : s.fsm = .hsHdr) (hver : s.gbyte 0 = Config.supportedVer)
    (hn : (s.gbyte 1).zeroExtend 9 ≠ 0) : Sound (enter .hsMeth ((s.gbyte 1).zeroExtend 9) (recordHsHeader s)) := by
  have hop : s.op = 0x1 := h.op.handshake_op (by rw [hf]; rfl)
  have hsize : ((s.gbyte 1).zeroExtend 9).toNat = (s.gbyte 1).toNat := BitVec.toNat_setWidth_of_le (by decide)
  have hpos : 0 < ((s.gbyte 1).zeroExtend 9).toNat := by bv_omega
  have hcount := h.consumed_eq_two hf
  refine sound_open h.busy rfl h.shutReq hpos (by simp) (by simp) ?op ((Nat.zero_add _).trans hsize) hcount h.consumed_le ?header
    h.status h.kind
  case op => constructor <;> simp [hop, h.busy, Fsm.inAddress]
  case header => constructor <;> simp [hver, Fsm.inAddress]

/-- A handshake's value: the version was checked, and the header and the methods are all the bytes taken (R453). -/
theorem GroupDone.sound_finish_handshake {methods : Vector Byte 255} (h : GroupDone s) (hf : s.fsm = .hsMeth) :
    Sound (finish .handshake { s with rMethods := methods }) := by
  have hop : s.op = 0x1 := h.op.handshake_op (by rw [hf]; rfl)
  have hcount : s.consumed.toNat = 2 + s.rNmeth.toNat := by rw [h.counted, groupBase, groupSize, hf]
  exact sound_finish h.op.op_le h.consumed_le ⟨hop, h.header.methods_ver hf, hcount⟩

/-- With no methods, the header's group is done and so is the empty method group behind it (R152). -/
theorem GroupDone.enterEmpty_methods (h : GroupDone s) (hf : s.fsm = .hsHdr) (hver : s.gbyte 0 = Config.supportedVer)
    (hn : s.gbyte 1 = 0) : GroupDone (enterEmpty .hsMeth (recordHsHeader s)) := by
  have hop : s.op = 0x1 := h.op.handshake_op (by rw [hf]; rfl)
  have hcount := h.consumed_eq_two hf
  refine ⟨h.busy, rfl, h.shutReq, rfl, ?op, ?header, ?counted, h.status, h.kind⟩
  case op => constructor <;> simp [hop, h.busy, Fsm.inAddress]
  case header => constructor <;> simp [hver, Fsm.inAddress]
  case counted => simp [groupBase, groupSize, hcount, hn]

/-- A handshake of another version waits for the shutdown (R451). -/
theorem GroupDone.sound_hsVersionMismatch (h : GroupDone s) (hf : s.fsm = .hsHdr) (hver : s.gbyte 0 ≠ Config.supportedVer) :
    Sound (hsVersionMismatch s) := by
  have hop : s.op = 0x1 := h.op.handshake_op (by rw [hf]; rfl)
  have hcount := h.consumed_eq_two hf
  refine ⟨flagsOk_shutting h.busy h.rdReq rfl rfl, ⟨by simp [h.busy], fun _ => rfl⟩, ?op, ?group, ?header, ?result⟩
  case op => constructor <;> simp [hop, h.busy, Fsm.inAddress]
  case group => constructor <;> simp [hcount, h.rdReq]
  case header => constructor <;> simp [hver, Fsm.inAddress]
  case result => constructor <;> simp [h.status, h.kind, h.busy]

/-- A request's tag group opens behind the three bytes of the header, with the version and the command checked (R482). -/
theorem GroupDone.sound_recordReqHeader (h : GroupDone s) (hf : s.fsm = .rqHdr) (hver : s.gbyte 0 = Config.supportedVer)
    (hcmd : isCommand (s.gbyte 1)) : Sound (recordReqHeader s) := by
  have hop : s.op = 0x4 := h.op.header_op hf
  have hallow : s.allowDomain = true := h.op.allows h.busy (.inr hop)
  have hcount : s.consumed.toNat = 3 := by simp [h.counted, groupBase, groupSize, hf]
  refine sound_open h.busy rfl h.shutReq (by simp) (by simp) (by simp) ?op rfl ?counts h.consumed_le ?header h.status h.kind
  case op => constructor <;> simp [hop, h.busy, hallow, Fsm.inHandshake]
  case counts => simp [groupBase, addressBase, hop, hcount]
  case header => constructor <;> simp [hver, hcmd]

/-- The domain form is read only where it is allowed, so not by SADDR (R429). -/
theorem GroupDone.op_ne_saddr (h : GroupDone s) (ha : s.allowDomain = true) : s.op ≠ 0x3 := by
  intro h3
  simp [h.op.forbids h.busy h3] at ha

/-- The bytes before an address's group and those of the group, by its state (R151). -/
theorem groupBase_add_groupSize_adDbody (hf : s.fsm = .adDbody) :
    groupBase s + groupSize s = addressBase s + (4 + s.rDlen.toNat) := by
  simp only [groupBase, groupSize, hf]
  omega

/-- Whatever completes, the block is sound after it. -/
theorem GroupDone.complete_sound (h : GroupDone s) (hc : complete s = .next t) : Sound t := by
  obtain ⟨hf, hv, rfl⟩ | ⟨hf, hv, rfl⟩ | ⟨hf, hv, hcmd, rfl⟩ | ⟨hf, -, rfl⟩ | ⟨hf, -, rfl⟩ | ⟨hf, -, rfl⟩ | ⟨hf, -, rfl⟩ |
    ⟨hf, -, ha, rfl⟩ | ⟨hf, -, -, rfl⟩ | ⟨hf, -, rfl⟩ | ⟨hf, rfl⟩ | ⟨hf, rfl⟩ | ⟨hf, rfl⟩ | ⟨hf, rfl⟩ | ⟨hf, rfl⟩ | ⟨hf, rfl⟩ :=
    complete_next hc
  · unfold enterOrComplete
    split
    case isTrue hn =>
      exact (h.enterEmpty_methods hf hv (by bv_omega)).sound_finish_handshake rfl
    case isFalse hn => exact h.sound_enter_methods hf hv hn
  · exact h.sound_hsVersionMismatch hf hv
  · exact h.sound_recordReqHeader hf hv hcmd
  · exact h.sound_raise (.inr (.inr (.inl ⟨_, rfl, h.op.header_op hf⟩)))
  · exact h.sound_raise (.inl ⟨_, rfl, .inr (h.op.header_op hf)⟩)
  · exact h.sound_enter_address (tag := 0x01) (len := s.rDlen) (ip := s.rIp6) (by rw [hf]; rfl) (.inl ⟨rfl, rfl⟩) (by decide) rfl
      (by simp only [groupBase, groupSize, hf]; rfl)
  · exact h.sound_enter_address (tag := 0x04) (len := s.rDlen) (ip := s.rIp6) (by rw [hf]; rfl) (.inr (.inl ⟨.inl rfl, rfl⟩))
      (by decide) rfl (by simp only [groupBase, groupSize, hf]; rfl)
  · exact h.sound_enter_address (tag := 0x03) (len := s.rDlen) (ip := s.rIp6) (by rw [hf]; rfl)
      (.inr (.inr ⟨.inl rfl, rfl, h.op_ne_saddr ha⟩)) (by decide) rfl (by simp only [groupBase, groupSize, hf]; rfl)
  · exact h.sound_raise_tag hf
  · exact h.sound_raise_tag hf
  · exact h.sound_finish_handshake hf
  · exact h.sound_addrDone (flow := s.rFlow) (scope := s.rScope) (name := s.rName) (by rw [hf]; rfl)
      (by simp [h.header.ip4_tag hf]) ⟨.inl (h.header.ip4_tag hf), by simp [h.header.ip4_tag hf]⟩
      (by simp [groupBase, groupSize, resultLen, hf, h.header.ip4_tag hf])
  · exact h.sound_enter_address (tag := s.rAtyp) (len := s.rDlen) (by rw [hf]; rfl)
      (.inr (.inl ⟨.inr rfl, h.header.ip6_tag (.inl hf)⟩)) (by decide) rfl (by simp only [groupBase, groupSize, hf]; rfl)
  · have htag := h.header.ip6_tag (.inr hf)
    exact h.sound_addrDone (ip4 := s.rIp4) (name := s.rName) (by rw [hf]; rfl)
      (by simp [htag]) ⟨.inr (.inr htag), fun _ => ⟨rfl, rfl⟩⟩
      (by simp [groupBase, groupSize, resultLen, hf, htag])
  · obtain ⟨htag, hop⟩ := h.header.domain_tag (.inl hf)
    have hbody : ((s.gbyte 0).zeroExtend 9 + 2).toNat = (s.gbyte 0).toNat + 2 := by bv_omega
    exact h.sound_enter_address (tag := s.rAtyp) (ip := s.rIp6) (by rw [hf]; rfl)
      (.inr (.inr ⟨.inr rfl, htag, hop⟩)) (by bv_omega) hbody (by simp only [groupBase, groupSize, hf]; rfl)
  · obtain ⟨htag, hop⟩ := h.header.domain_tag (.inr hf)
    exact h.sound_addrDone (ip4 := s.rIp4) (flow := s.rFlow) (scope := s.rScope) (by rw [hf]; rfl)
      (fun h3 => absurd h3 hop) ⟨.inr (.inl htag), by simp [htag]⟩
      (by simp [groupBase_add_groupSize_adDbody hf, resultLen, htag])

/-! ## Events -/

/-- A byte that does not complete its group is counted, and nothing else changes. -/
theorem Sound.takeByte_more {b : Byte} (h : Sound s) (hr : s.rdReq = true) (hn : s.need ≠ 1) : Sound (takeByte b s) := by
  obtain ⟨hp, hpos, hsize⟩ := h.open_group hr
  have hcount := h.group.counts hr
  have hfits := group_fits s
  have hst := h.status_none (by simp [hp])
  have hgcnt : (s.gcnt + 1).toNat = s.gcnt.toNat + 1 := by bv_omega
  have hneed : (s.need - 1).toNat + 1 = s.need.toNat := by bv_omega
  have htaken : (s.consumed + 1).toNat = s.consumed.toNat + 1 := by bv_omega
  have hsize' : (s.gcnt + 1).toNat + (s.need - 1).toNat = groupSize s := by omega
  have hcount' : (s.consumed + 1).toNat = groupBase s + (s.gcnt + 1).toNat := by omega
  have hbound' : (s.consumed + 1).toNat ≤ 262 := by omega
  refine ⟨onByte_flagsOk h.flags hr (onByte_more hn), ⟨h.fsm.none_iff, h.fsm.shut_waits⟩, ?op, ?group, ?header, ?result⟩
  case op =>
    exact ⟨h.op.op_le, by simp [hp], h.op.handshake_op, h.op.header_op, h.op.address_op, h.op.allows, h.op.forbids⟩
  case group => exact ⟨fun _ => hsize', fun _ => hcount', by simp [h.flags.shutReq_eq_false hr], hbound'⟩
  case header =>
    exact ⟨h.header.methods_ver, h.header.shut_ver, h.header.request_header, h.header.ip4_tag, h.header.ip6_tag,
      h.header.domain_tag⟩
  case result => exact ⟨h.result.status_iff, h.result.kind_ok, by simp [hst], by simp [hst], by simp [hst]⟩

theorem onByte_sound {b : Byte} (h : Sound s) (hr : s.rdReq = true) (hb : onByte b s = .next t) : Sound t := by
  by_cases hn : s.need = 1
  · exact (h.groupDone hr hn).complete_sound ((onByte_last hn).symm.trans hb)
  · cases (onByte_more hn).symm.trans hb
    exact h.takeByte_more hr hn

/-- Only a handshake waits for the shutdown's answer (R451). -/
theorem Sound.op_eq_hs (h : Sound s) (hs : s.shutReq = true) : s.phase = .busy ∧ s.op = 0x1 := by
  obtain ⟨hp, hf⟩ := h.flags.shutReq_busy hs
  exact ⟨hp, h.op.handshake_op (by rw [hf]; rfl)⟩

/-- A transport's error on a read ends any operation (R212, R213, R630). -/
theorem Sound.raise_of_read {k : Err} (h : Sound s) (hr : s.rdReq = true) (hf : raiseFits k s.op s.shutWr) :
    Sound (raise k (closeGroup s)) := by
  obtain ⟨hp, -⟩ := h.flags.rdReq_busy hr
  exact sound_raise (s := closeGroup s) h.op.op_le h.group.bounded (h.kind_none (by simp [hp])) hf

/-- Both answers to the shutdown end the handshake (R452). -/
theorem Sound.raise_of_shutdown {k : Err} {w : Bool} (h : Sound s) (hs : s.shutReq = true) (hf : raiseFits k s.op w) :
    Sound (raise k { s with shutReq := false, shutWr := w }) := by
  obtain ⟨hp, -⟩ := h.op_eq_hs hs
  exact sound_raise (s := { s with shutReq := false, shutWr := w }) h.op.op_le h.group.bounded (h.kind_none (by simp [hp])) hf

theorem handle_sound {e : Event} (h : Sound s) (he : enabled e s = true) (hd : handle e s = .next t) : Sound t := by
  cases e
  case cmd w b0 b1 b2 b3 n =>
    obtain ⟨hp, hr, hs, hop, ha, hc, hst, hk⟩ := h.idleClear (by simpa [enabled] using he)
    exact exec_command_sound (s := latch w b0 b1 b2 b3 n s) (place_decodeCmd w) ⟨hp, hr, hs, hop, ha, hc, hst, hk⟩ hd
  case byte b => exact onByte_sound h he hd
  case eof =>
    cases hd
    exact h.raise_of_read he (.inr (.inr (.inr (.inl rfl))))
  case rdErr e =>
    cases hd
    exact h.raise_of_read he (.inr (.inr (.inr (.inr (.inl ⟨e, rfl⟩)))))
  case shutOk =>
    cases hd
    exact h.raise_of_shutdown he (.inl ⟨_, rfl, .inl ⟨(h.op_eq_hs he).2, rfl⟩⟩)
  case shutErr e =>
    cases hd
    exact h.raise_of_shutdown he (.inr (.inr (.inr (.inr (.inr ⟨e, rfl, (h.op_eq_hs he).2⟩)))))
  case ack =>
    cases hd
    have hdone : s.phase = .done := by simpa [enabled] using he
    obtain ⟨hr, hs⟩ := h.flags.quiet (by simp [hdone])
    exact sound_idle (s := release s) rfl hr hs rfl ⟨rfl, rfl, rfl, rfl, rfl⟩ rfl rfl
  case abort | reset =>
    cases hd
    exact sound_idle rfl rfl rfl rfl ⟨rfl, rfl, rfl, rfl, rfl⟩ rfl rfl

/-- Settles O36: a step is one enabled event handled, and each event's effect, a command's or a completion's among them, keeps the
invariant. -/
theorem stepKeepsSoundStates : Obligations.StepKeepsSoundStates := by
  intro s t h hs
  obtain ⟨e, rest, -, he, hd⟩ := step_next hs
  exact handle_sound (sound_withHost rest h) he hd

end Sys2Proof.Machine
end

section
/-! PROOFS. When a step happens, and when none does (10_state section 7, 60_exceptions section 2, R150, R211): a sound block steps
at every enabled event, and an open read ends within the longest frame. -/

namespace Sys2Proof.Machine

variable {s t : State}

/-! ## Every enabled event has a step -/

/-- A completion rule stands for every decoder state but NONE and HS_SHUT (R151). -/
theorem exists_complete (hn : s.need = 0) (hnone : s.fsm ≠ .none) (hshut : s.fsm ≠ .hsShut) : ∃ t, complete s = .next t := by
  cases hf : s.fsm
  case none => exact absurd hf hnone
  case hsShut => exact absurd hf hshut
  case hsHdr =>
    by_cases h5 : s.gbyte 0 = 0x05
    · exact ⟨_, (complete_hsHdr_supported hf h5).trans (whenDispatched_ready hf hn h5)⟩
    · exact ⟨_, complete_hsHdr_mismatch hf h5⟩
  case rqHdr =>
    by_cases h5 : s.gbyte 0 = 0x05
    · by_cases hc : s.gbyte 1 = 0x01 ∨ s.gbyte 1 = 0x02 ∨ s.gbyte 1 = 0x03
      · exact ⟨_, complete_rqHdr_command hf hn h5 hc⟩
      · obtain ⟨h1, h2, h3⟩ : s.gbyte 1 ≠ 0x01 ∧ s.gbyte 1 ≠ 0x02 ∧ s.gbyte 1 ≠ 0x03 := by simpa using hc
        exact ⟨_, complete_rqHdr_unknown hf hn h5 h1 h2 h3⟩
    · exact ⟨_, complete_rqHdr_mismatch hf h5⟩
  case adTag =>
    by_cases h1 : s.gbyte 0 = 0x01
    · exact ⟨_, (complete_adTag hf (decodeAtyp_ipv4 h1)).trans (whenDispatched_ready hf hn h1)⟩
    by_cases h3 : s.gbyte 0 = 0x03
    · exact ⟨_, (complete_adTag hf (decodeAtyp_domain h3)).trans (whenDispatched_ready hf hn h3)⟩
    by_cases h4 : s.gbyte 0 = 0x04
    · exact ⟨_, (complete_adTag hf (decodeAtyp_ipv6 h4)).trans (whenDispatched_ready hf hn h4)⟩
    · exact ⟨_, complete_adTag_unknown hf h1 h3 h4⟩
  case hsMeth => exact ⟨_, complete_hsMeth hf⟩
  case adV4 => exact ⟨_, complete_adV4 hf⟩
  case adV6A => exact ⟨_, complete_adV6A hf⟩
  case adV6P => exact ⟨_, complete_adV6P hf⟩
  case adDlen => exact ⟨_, complete_adDlen hf⟩
  case adDbody => exact ⟨_, complete_adDbody hf⟩

/-- A block that waits for a byte stands in a decoder state with a group. -/
theorem Sound.fsm_of_rdReq (h : Sound s) (hr : s.rdReq = true) : s.fsm ≠ .none ∧ s.fsm ≠ .hsShut := by
  obtain ⟨hp, -⟩ := h.flags.rdReq_busy hr
  constructor
  · exact fun hf => h.fsm.none_iff.mp hf hp
  · intro hf
    have hs := h.fsm.shut_waits hf
    simp [h.flags.shutReq_eq_false hr] at hs

theorem Sound.exists_onByte (h : Sound s) (hr : s.rdReq = true) (b : Byte) : ∃ t, onByte b s = .next t := by
  by_cases hn : s.need = 1
  · obtain ⟨hnone, hshut⟩ := h.fsm_of_rdReq hr
    rw [onByte_last hn]
    exact exists_complete (by simp [hn]) hnone hshut
  · exact ⟨_, onByte_more hn⟩

theorem exists_exec_command {i : Instr} (hi : place i = .hostCmd) (hp : s.phase = .idle) : ∃ t, exec i s = .next t := by
  cases i
  case hs | addr | saddr | req | rd16 | rd32 | alen | rlen | reserved00 | reserved09 | reserved0A | reserved0C | reserved10
      | reserved20 | reserved40 | reserved80 => exact ⟨_, whenIdle_idle hp⟩
  all_goals cases hi

theorem Sound.exists_onEvent {e : Event} (h : Sound s) (he : enabled e s = true) : ∃ t, onEvent e s = .next t := by
  rw [onEvent_enabled he]
  cases e
  case cmd w b0 b1 b2 b3 n => exact exists_exec_command (place_decodeCmd w) (by simpa [enabled] using he)
  case byte b => exact h.exists_onByte he b
  all_goals exact ⟨_, rfl⟩

theorem hostMay_iff_enabled {e : Event} : HostMay e s ↔ enabled e s = true := by
  cases e <;> simp [HostMay, enabled]

/-- Settles O33: an enabled event is handled, which answers a next state in every sound state; the step takes the first event. -/
theorem eventsStepExactlyWhenEnabled : Obligations.EventsStepExactlyWhenEnabled := by
  refine fun s h =>
    ⟨fun e => ⟨fun he => h.exists_onEvent (hostMay_iff_enabled.mp he), fun he => ?_⟩, step_nil, fun e rest => step_cons⟩
  exact onEvent_not_enabled (by simpa [hostMay_iff_enabled] using he)

/-- Settles O37: with an event that is enabled the step answers a next state, and the other two ends of a step are the host's. -/
theorem stepStopsOnlyForTheHost : Obligations.StepStopsOnlyForTheHost := by
  intro s h
  cases hh : s.host with
  | nil => simp [step_nil hh, Fault.isHostStop]
  | cons e rest =>
    rw [step_cons hh]
    by_cases he : enabled e (withHost rest s) = true
    · obtain ⟨t, ht⟩ := (sound_withHost rest h).exists_onEvent he
      simp [ht]
    · rw [onEvent_not_enabled (by simpa using he)]
      simp [Fault.isHostStop]

/-- Settles O42: in DONE the block is not idle and asks for nothing, so no command and no answer is enabled. -/
theorem resultStandsUntilReleased : Obligations.ResultStandsUntilReleased := by
  intro s t e h hp ht
  obtain ⟨he, -⟩ := onEvent_next ht
  obtain ⟨hr, hs⟩ := h.flags.quiet (by simp [hp])
  cases e <;> simp [enabled, hp, hr, hs] at he ⊢

/-! ## An open read ends -/

/-- A block that waits for a byte has not yet taken the 262 bytes of the longest frame. -/
theorem Sound.consumed_lt (h : Sound s) (hr : s.rdReq = true) : s.consumed.toNat < 262 := by
  obtain ⟨-, hpos, hsize⟩ := h.open_group hr
  have hcount := h.group.counts hr
  have hfits := group_fits s
  omega

theorem step_byte {b : Byte} {rest : List Event} (hh : s.host = .byte b :: rest) (hr : s.rdReq = true) :
    step s = onByte b (withHost rest s) :=
  (step_cons hh).trans (onEvent_enabled (s := withHost rest s) (e := .byte b) hr)

/-- With `m` bytes left of the longest frame and as many presented, the block stops asking within `m` of them. -/
theorem reading_ends (m : Nat) : ∀ (s : State) (bs : List Byte), Sound s → s.rdReq = true → 262 ≤ s.consumed.toNat + m →
    m ≤ bs.length → s.host = bs.map Event.byte →
    ∃ n t, n ≤ m ∧ Host.Core.run Sys2Proof.core n s = .next t ∧ t.rdReq = false ∧ t.host = (bs.drop n).map Event.byte := by
  induction m with
  | zero =>
    intro s bs h hr hm _ _
    have := h.consumed_lt hr
    omega
  | succ m ih =>
    intro s bs h hr hm hlen hh
    match bs, hlen, hh with
    | b :: bs, hlen, hh =>
      have hw : Sound (withHost (bs.map Event.byte) s) := sound_withHost _ h
      obtain ⟨t, ht⟩ := hw.exists_onByte hr b
      have hstep : step s = .next t := (step_byte hh hr).trans ht
      obtain ⟨hcount, -, hhost⟩ := onByte_frame ht
      by_cases hread : t.rdReq = true
      · have hlt := h.consumed_lt hr
        have hnext : t.consumed.toNat = s.consumed.toNat + 1 := by
          simp only [hcount, withHost_fields]
          bv_omega
        obtain ⟨n, u, hn, hrun, hend, hleft⟩ :=
          ih t bs (onByte_sound hw hr ht) hread (by omega) (Nat.le_of_succ_le_succ hlen) hhost
        exact ⟨n + 1, u, Nat.succ_le_succ hn, (run_succ n hstep).trans hrun, hend, hleft⟩
      · exact ⟨1, t, by omega, run_succ 0 hstep, by simpa using hread, hhost⟩

/-- Settles O43: the longest frame has 262 bytes. -/
theorem readingEndsWithinTheLongestFrame : Obligations.ReadingEndsWithinTheLongestFrame :=
  fun s bs h hr hlen hh => reading_ends 262 s bs h hr (Nat.le_add_left _ _) hlen hh

end Sys2Proof.Machine
end

section
/-! PROOFS. What no rule looks at: the buffer outside the group (10_state section 4, R107, R211), and the native errors (00_scope
section 5, parameter P1). -/

namespace Sys2Proof.Machine

variable {s t : State}

/-! ## The hidden fields -/

/-- The same block with another buffer, another native error in its register and other events to come. -/
def withHidden (buf : Vector Byte 257) (err : TErr) (events : List Event) (s : State) : State :=
  { s with gbuf := buf, rIoErr := err, host := events }

/-- A function on the next state, where there is one. -/
def mapNext (g : State → State) : Out → Out
  | .next t => .next (g t)
  | .fault r => .fault r
  | .refused r => .refused r

theorem whenIdle_map {g : State → State} (hp : (g s).phase = s.phase) : whenIdle (g s) (g t) = mapNext g (whenIdle s t) := by
  unfold whenIdle
  rw [hp]
  split <;> rfl

theorem whenDispatched_map {g : State → State} {f : Fsm} {i : Nat} {b : Byte} (hf : (g s).fsm = s.fsm) (hn : (g s).need = s.need)
    (hb : (g s).gbyte i = s.gbyte i) : whenDispatched f i b (g s) (g t) = mapNext g (whenDispatched f i b s t) := by
  unfold whenDispatched
  rw [hf, hn, hb]
  split <;> rfl

section
variable {buf : Vector Byte 257} {err : TErr} {events : List Event}

/-- Copying a group reads the group's bytes only. -/
theorem copyGroup_withHidden {m k : Nat} {dst : Vector Byte m} (hg : ∀ i < k, (withHidden buf err events s).gbyte i = s.gbyte i) :
    copyGroup (withHidden buf err events s) k dst = copyGroup s k dst := by
  ext i hi
  rw [copyGroup_get, copyGroup_get]
  split
  · rw [hg i ‹_›]
  · rfl

/-- The handshake's version row reads the two bytes of its group: with no methods it copies none. -/
theorem enterOrComplete_hsMeth_withHidden (h0 : (withHidden buf err events s).gbyte 0 = s.gbyte 0)
    (h1 : (withHidden buf err events s).gbyte 1 = s.gbyte 1) :
    enterOrComplete .hsMeth ((s.gbyte 1).zeroExtend 9) completeHsMeth (recordHsHeader (withHidden buf err events s)) =
      withHidden buf err events
        (enterOrComplete .hsMeth ((s.gbyte 1).zeroExtend 9) completeHsMeth (recordHsHeader s)) := by
  have hrec : recordHsHeader (withHidden buf err events s) = withHidden buf err events (recordHsHeader s) := by
    simp only [recordHsHeader, h0, h1]
    rfl
  unfold enterOrComplete
  split
  case isTrue hn =>
    have hzero : s.gbyte 1 = 0 := by bv_omega
    rw [completeHsMeth_of_rNmeth_zero (by exact h1.trans hzero), completeHsMeth_of_rNmeth_zero (by exact hzero), hrec]
    rfl
  case isFalse => rw [hrec]; rfl

/-- The command check reads the three bytes of the request's header. -/
theorem dispatchCommand_withHidden (hg : ∀ i < 3, (withHidden buf err events s).gbyte i = s.gbyte i) :
    dispatchCommand (withHidden buf err events s) = mapNext (withHidden buf err events) (dispatchCommand s) := by
  have h0 := hg 0 (by decide)
  have h1 := hg 1 (by decide)
  have h2 := hg 2 (by decide)
  have hrec : recordReqHeader (withHidden buf err events s) = withHidden buf err events (recordReqHeader s) := by
    simp only [recordReqHeader, h0, h1, h2]
    rfl
  have hunknown : reqCommandUnknown (withHidden buf err events s) = withHidden buf err events (reqCommandUnknown s) := by
    simp only [reqCommandUnknown, h1]
    rfl
  have hcommand (c : Byte) : whenCommand c (withHidden buf err events s) (recordReqHeader (withHidden buf err events s)) =
      mapNext (withHidden buf err events) (whenCommand c s (recordReqHeader s)) := by
    unfold whenCommand
    rw [h0, hrec, whenDispatched_map (g := withHidden buf err events) rfl rfl h1]
    split <;> rfl
  unfold dispatchCommand
  rw [h1, hunknown, execReqCmdConnect, execReqCmdBind, execReqCmdUdpAssociate, hcommand, hcommand, hcommand]
  split_ifs <;> rfl

theorem complete_hsHdr_withHidden (hf : s.fsm = .hsHdr) (h0 : (withHidden buf err events s).gbyte 0 = s.gbyte 0)
    (h1 : (withHidden buf err events s).gbyte 1 = s.gbyte 1) :
    complete (withHidden buf err events s) = mapNext (withHidden buf err events) (complete s) := by
  have hf' : (withHidden buf err events s).fsm = .hsHdr := hf
  by_cases h5 : s.gbyte 0 = 0x05
  · rw [complete_hsHdr_supported hf' (h0.trans h5), complete_hsHdr_supported hf h5]
    refine Eq.trans ?_ (whenDispatched_map (g := withHidden buf err events) rfl rfl h0)
    rw [← enterOrComplete_hsMeth_withHidden h0 h1, ← h1]
    rfl
  · rw [complete_hsHdr_mismatch hf' (by rwa [h0]), complete_hsHdr_mismatch hf h5]
    simp only [mapNext, hsVersionMismatch, recordHsHeader, h0, h1]
    rfl

theorem complete_rqHdr_withHidden (hf : s.fsm = .rqHdr) (hg : ∀ i < 3, (withHidden buf err events s).gbyte i = s.gbyte i) :
    complete (withHidden buf err events s) = mapNext (withHidden buf err events) (complete s) := by
  have hf' : (withHidden buf err events s).fsm = .rqHdr := hf
  have h0 := hg 0 (by decide)
  by_cases h5 : s.gbyte 0 = 0x05
  · rw [complete_rqHdr_supported hf' (h0.trans h5), complete_rqHdr_supported hf h5]
    change execReqVer _ = mapNext _ (execReqVer s)
    unfold execReqVer
    rw [h0, dispatchCommand_withHidden hg, hf', hf, show (withHidden buf err events s).need = s.need from rfl]
    split_ifs <;> rfl
  · rw [complete_rqHdr_mismatch hf' (by rwa [h0]), complete_rqHdr_mismatch hf h5]
    simp only [mapNext, reqVersionMismatch, h0]
    rfl

theorem complete_adTag_withHidden (hf : s.fsm = .adTag) (h0 : (withHidden buf err events s).gbyte 0 = s.gbyte 0) :
    complete (withHidden buf err events s) = mapNext (withHidden buf err events) (complete s) := by
  have hf' : (withHidden buf err events s).fsm = .adTag := hf
  by_cases h1 : s.gbyte 0 = 0x01
  · rw [complete_adTag hf' (decodeAtyp_ipv4 (h0.trans h1)), complete_adTag hf (decodeAtyp_ipv4 h1)]
    exact whenDispatched_map (g := withHidden buf err events) (t := enter .adV4 6 (recordTag 0x01 s)) rfl rfl h0
  by_cases h3 : s.gbyte 0 = 0x03
  · rw [complete_adTag hf' (decodeAtyp_domain (h0.trans h3)), complete_adTag hf (decodeAtyp_domain h3)]
    refine Eq.trans ?_ (whenDispatched_map (g := withHidden buf err events) (t := if s.allowDomain then
      enter .adDlen 1 (recordTag 0x03 s) else raise (.addressTypeNotSupported 0x03) (recordTag 0x03 s)) rfl rfl h0)
    rw [apply_ite (withHidden buf err events)]
    rfl
  by_cases h4 : s.gbyte 0 = 0x04
  · rw [complete_adTag hf' (decodeAtyp_ipv6 (h0.trans h4)), complete_adTag hf (decodeAtyp_ipv6 h4)]
    exact whenDispatched_map (g := withHidden buf err events) (t := enter .adV6A 16 (recordTag 0x04 s)) rfl rfl h0
  · rw [complete_adTag_unknown hf' (by rwa [h0]) (by rwa [h0]) (by rwa [h0]), complete_adTag_unknown hf h1 h3 h4]
    simp only [mapNext, adTagUnknown, h0]
    rfl

/-- A completion reads its group's bytes, and nothing else of the hidden fields: it writes the same registers. -/
theorem complete_withHidden (hg : ∀ i < groupSize s, (withHidden buf err events s).gbyte i = s.gbyte i) :
    complete (withHidden buf err events s) = mapNext (withHidden buf err events) (complete s) := by
  have hfsm : (withHidden buf err events s).fsm = s.fsm := rfl
  cases hf : s.fsm <;> simp only [groupSize, hf] at hg
  case none | hsShut => simp only [complete, hfsm, hf, mapNext]
  case hsHdr => exact complete_hsHdr_withHidden hf (hg 0 (by decide)) (hg 1 (by decide))
  case rqHdr => exact complete_rqHdr_withHidden hf hg
  case adTag => exact complete_adTag_withHidden hf (hg 0 (by decide))
  case hsMeth =>
    have hcopy : copyGroup (withHidden buf err events s) (withHidden buf err events s).rNmeth.toNat
      (withHidden buf err events s).rMethods = copyGroup s s.rNmeth.toNat s.rMethods := copyGroup_withHidden hg
    rw [complete_hsMeth (hfsm.trans hf), complete_hsMeth hf, completeHsMeth, hcopy]
    rfl
  case adV4 =>
    have hcopy : copyGroup (withHidden buf err events s) 4 (withHidden buf err events s).rIp4 = copyGroup s 4 s.rIp4 :=
      copyGroup_withHidden fun i hi => hg i (by omega)
    rw [complete_adV4 (hfsm.trans hf), complete_adV4 hf, hcopy, hg 4 (by decide), hg 5 (by decide)]
    rfl
  case adV6A =>
    have hcopy : copyGroup (withHidden buf err events s) 16 (withHidden buf err events s).rIp6 = copyGroup s 16 s.rIp6 :=
      copyGroup_withHidden hg
    rw [complete_adV6A (hfsm.trans hf), complete_adV6A hf, completeAdV6A, hcopy]
    rfl
  case adV6P =>
    rw [complete_adV6P (hfsm.trans hf), complete_adV6P hf, hg 0 (by decide), hg 1 (by decide)]
    rfl
  case adDlen =>
    rw [complete_adDlen (hfsm.trans hf), complete_adDlen hf, completeAdDlen, hg 0 (by decide)]
    rfl
  case adDbody =>
    have hlen : (withHidden buf err events s).rDlen = s.rDlen := rfl
    have hcopy : copyGroup (withHidden buf err events s) s.rDlen.toNat (withHidden buf err events s).rName =
      copyGroup s s.rDlen.toNat s.rName := copyGroup_withHidden fun i hi => hg i (by omega)
    rw [complete_adDbody (hfsm.trans hf), complete_adDbody hf, hlen, hcopy, hg s.rDlen.toNat (by omega),
      hg (s.rDlen.toNat + 1) (by omega)]
    rfl

end

/-! ## The buffer outside the group -/

/-- A block that waits for a byte has room for it in the buffer. -/
theorem Sound.gcnt_lt (h : Sound s) (hr : s.rdReq = true) : s.gcnt.toNat < 257 := by
  obtain ⟨-, hpos, hsize⟩ := h.open_group hr
  have hfits : groupSize s ≤ 257 := by
    have := s.rNmeth.isLt
    have := s.rDlen.isLt
    cases hf : s.fsm <;> simp only [groupSize, hf] <;> omega
  omega

/-- Settles O26: the group's count and its last byte are `takeByte`'s, and the completion of the same group in another buffer is, by
`complete_withHidden`, the same but for the buffer. -/
theorem groupIsWholeWhenItCompletes : Obligations.GroupIsWholeWhenItCompletes := by
  intro s b h hr hn
  obtain ⟨-, -, hsize⟩ := h.open_group hr
  have hroom := h.gcnt_lt hr
  have hneed : s.need.toNat = 1 := congrArg BitVec.toNat hn
  have hgcnt : (s.gcnt + 1).toNat = s.gcnt.toNat + 1 := by bv_omega
  refine ⟨⟨hgcnt.trans (by omega), by simp [hn], ?last, fun i hi => ?earlier⟩, fun s' hs' hagree => ?other⟩
  case last => rw [gbyte_takeByte b _ hroom, if_pos rfl]
  case earlier => rw [gbyte_takeByte b _ hroom, if_neg (by omega)]
  case other =>
    obtain ⟨t, ht⟩ := h.exists_onByte hr b
    have hdone := (onByte_last hn).symm.trans ht
    have hr' : s'.rdReq = true := by rw [hs']; exact hr
    have hn' : s'.need = 1 := by rw [hs']; exact hn
    have hg' : s'.gcnt = s.gcnt := by rw [hs']
    have hstate : closeGroup (takeByte b s') =
        withHidden (takeByte b s').gbuf s.rIoErr s.host (closeGroup (takeByte b s)) := by
      rw [hs']
      rfl
    have hsame : ∀ i < groupSize s, (closeGroup (takeByte b s')).gbyte i = (closeGroup (takeByte b s)).gbyte i := by
      intro i hi
      rw [gbyte_closeGroup, gbyte_closeGroup, gbyte_takeByte b i hroom, gbyte_takeByte b i (hg' ▸ hroom), hg']
      split
      · rfl
      · exact hagree i (by omega)
    refine ⟨t, withHidden (takeByte b s').gbuf s.rIoErr s.host t, (onEvent_enabled (e := .byte b) hr).trans ht, ?_, ?_⟩
    · rw [onEvent_byte_last hr' hn', hstate, complete_withHidden (fun i hi => hstate ▸ hsame i hi), hdone]
      rfl
    · obtain ⟨-, -, hhost, -, herr⟩ := complete_frame hdone
      rw [show s.rIoErr = t.rIoErr from herr.symm, show s.host = t.host from hhost.symm]
      rfl

/-! ## The native errors -/

section
variable (f : TErr → TErr)

theorem finishLength_mapErr (len : Option Nat) : finishLength len (s.mapErr f) = (finishLength len s).mapErr f := by
  cases len <;> rfl

/-- A command row is guarded by `whenIdle`, and writes no native error. -/
theorem exec_command_mapErr {i : Instr} (hi : place i = .hostCmd) : exec i (s.mapErr f) = mapNext (State.mapErr f) (exec i s) := by
  cases i
  case hs => exact whenIdle_map (g := State.mapErr f) (t := startGroup .hsHdr 2 (accept 0x1 s)) rfl
  case addr => exact whenIdle_map (g := State.mapErr f) (t := startGroup .adTag 1 { accept 0x2 s with allowDomain := true }) rfl
  case saddr => exact whenIdle_map (g := State.mapErr f) (t := startGroup .adTag 1 { accept 0x3 s with allowDomain := false }) rfl
  case req => exact whenIdle_map (g := State.mapErr f) (t := startGroup .rqHdr 3 { accept 0x4 s with allowDomain := true }) rfl
  case rd16 => exact whenIdle_map (g := State.mapErr f) (t := finish .u16 { accept 0x5 s with rU16 := s.operand16 }) rfl
  case rd32 => exact whenIdle_map (g := State.mapErr f) (t := finish .u32 { accept 0x6 s with rU32 := s.operand32 }) rfl
  case alen =>
    refine Eq.trans ?_ (whenIdle_map (g := State.mapErr f)
      (t := finishLength (alen s.operandAtyp s.operandNlen.toNat) (accept 0x7 s)) rfl)
    rw [← finishLength_mapErr]
    rfl
  case rlen =>
    refine Eq.trans ?_ (whenIdle_map (g := State.mapErr f)
      (t := finishLength (rlen s.operandAtyp s.operandNlen.toNat) (accept 0x8 s)) rfl)
    rw [← finishLength_mapErr]
    rfl
  case reserved00 | reserved09 | reserved0A | reserved0C | reserved10 | reserved20 | reserved40 | reserved80 =>
    exact whenIdle_map (g := State.mapErr f) (t := refuse .reservedOp s) rfl
  all_goals cases hi

/-- A completion writes no native error, takes no event and leaves the buffer, so renaming is a change of hidden fields. -/
theorem complete_mapErr : complete (s.mapErr f) = mapNext (State.mapErr f) (complete s) := by
  have h := complete_withHidden (buf := s.gbuf) (err := f s.rIoErr) (events := s.host.map (Event.mapErr f)) fun _ _ => rfl
  refine Eq.trans h ?_
  cases hc : complete s with
  | next t =>
    obtain ⟨-, -, hhost, hbuf, herr⟩ := complete_frame hc
    rw [mapNext, mapNext, ← hbuf, ← herr, ← hhost]
    rfl
  | fault r => rfl
  | refused r => rfl

theorem onByte_mapErr (b : Byte) : onByte b (s.mapErr f) = mapNext (State.mapErr f) (onByte b s) := by
  by_cases hn : s.need = 1
  · rw [onByte_last hn, onByte_last (s := s.mapErr f) hn, ← complete_mapErr]
    rfl
  · rw [onByte_more hn, onByte_more (s := s.mapErr f) hn]
    rfl

/-- Each event's error is recorded as it is; no other is written. -/
theorem handle_mapErr (e : Event) : handle (e.mapErr f) (s.mapErr f) = mapNext (State.mapErr f) (handle e s) := by
  cases e
  case cmd w b0 b1 b2 b3 n => exact exec_command_mapErr (s := latch w b0 b1 b2 b3 n s) f (place_decodeCmd w)
  case byte b => exact onByte_mapErr f b
  all_goals rfl

/-- What enables an event does not depend on an error. -/
theorem enabled_mapErr (e : Event) : enabled (e.mapErr f) (s.mapErr f) = enabled e s := by
  cases e <;> rfl

theorem step_mapErr : step (s.mapErr f) = mapNext (State.mapErr f) (step s) := by
  cases hh : s.host with
  | nil =>
    rw [step_nil hh, step_nil (by simp [hh])]
    rfl
  | cons e rest =>
    have hh' : (s.mapErr f).host = e.mapErr f :: rest.map (Event.mapErr f) := by simp [hh]
    have hrest : withHost (rest.map (Event.mapErr f)) (s.mapErr f) = (withHost rest s).mapErr f := rfl
    rw [step_cons hh, step_cons hh', hrest, onEvent, onEvent, enabled_mapErr, handle_mapErr]
    split <;> rfl

theorem readRes_mapErr (r : ResReg) : readRes r (s.mapErr f) = (readRes r s).map (RegValue.mapErr f) := by
  have hvalid : r.valid (s.mapErr f) = r.valid s := by cases r <;> rfl
  have hcontents : r.contents (s.mapErr f) = (r.contents s).mapErr f := by cases r <;> rfl
  rw [readRes, readRes, hvalid, hcontents]
  split <;> rfl

end

/-- Settles O41: renaming commutes with the handling of each event, by `complete_withHidden` for the completions, and with each
read. -/
theorem nativeErrorsAreNeverInspected : Obligations.NativeErrorsAreNeverInspected := by
  refine fun f s => ⟨(step_mapErr f).trans ?_, readRes_mapErr f⟩
  cases step s <;> rfl

end Sys2Proof.Machine
end

section
/-! PROOFS. What the host reads (10_state sections 5 and 6, R110 to R114), and the instances (60_exceptions section 7, R640). -/

namespace Sys2Proof.Machine

variable {s t : State} {r : ResReg}

/-! ## When each register is valid -/

theorem readRes_of_valid (h : r.valid s = true) : readRes r s = .ok (r.contents s) := if_pos h

theorem readRes_of_not_valid (h : r.valid s = false) : readRes r s = .error .invalidRead := if_neg (by simp [h])

/-- A read is described by when it is valid and by what the register holds. -/
theorem readsWhen_of_valid {valid : Prop} {v : RegValue} (hvalid : r.valid s = true ↔ valid) (hv : valid → r.contents s = v) :
    ReadsWhen s r valid v := by
  refine ⟨fun h => ?_, fun h => readRes_of_not_valid (by rwa [← Bool.not_eq_true, hvalid])⟩
  rw [readRes_of_valid (hvalid.mpr h), hv h]

theorem hasStatus_iff {st : Status} : s.hasStatus st = true ↔ s.phase = .done ∧ s.resStatus = st := by
  simp [State.hasStatus]

theorem hasKind_iff {k : Kind} : s.hasKind k = true ↔ s.hasStatus .ok = true ∧ s.resKind = k := by
  simp [State.hasKind]

theorem hasAddress_iff : s.hasAddress = true ↔ s.hasStatus .ok = true ∧ (s.resKind = .address ∨ s.resKind = .request) := by
  simp [State.hasAddress, hasKind_iff, and_or_left]

theorem hasAtyp_iff {tag : Byte} : s.hasAtyp tag = true ↔ s.hasAddress = true ∧ s.rAtyp = tag := by
  simp [State.hasAtyp]

/-- Outside DONE no register but RES_STATUS is valid: every other row asks for a result. -/
theorem not_valid_outside_done (hp : s.phase ≠ .done) (hr : r ≠ .resStatus) : r.valid s = false := by
  have hstatus (st : Status) : s.hasStatus st = false := by simp [State.hasStatus, hp]
  cases r <;> simp [ResReg.valid, State.hasKind, State.hasAddress, State.hasAtyp, hstatus] at hr ⊢

/-- Settles O45: no such register is valid. -/
theorem nothingIsReadableOutsideDone : Obligations.NothingIsReadableOutsideDone :=
  fun _ _ hp hr => readRes_of_not_valid (not_valid_outside_done hp hr)

/-- Settles O46: a value is read only where the register is valid, and `valid_of_err` lists the valid ones. -/
theorem noPartialValueOnError : Obligations.NoPartialValueOnError :=
  fun _ _ he ⟨_, h⟩ => valid_of_err he (valid_of_readRes_ok h)

/-! ## The register table -/

theorem arrayByte_eq {m : Nat} (v : Vector Byte m) {i : Nat} (h : i < m) : arrayByte v i = v[i] := by
  simp [arrayByte, h]

theorem bits_arrayByte {m : Nat} (v : Vector Byte m) (i : Fin m) : RegValue.bits (arrayByte v i.val).toNat = .bits v[i].toNat := by
  rw [arrayByte_eq v i.isLt]
  rfl

/-- A register of an array is not valid from the array's length on. -/
theorem not_valid_beyond (i : Nat) :
    (4 ≤ i → ResReg.valid (.rIp4 i) s = false) ∧ (16 ≤ i → ResReg.valid (.rIp6 i) s = false) ∧
      (255 ≤ i → ResReg.valid (.rMethods i) s = false ∧ ResReg.valid (.rName i) s = false) := by
  have hm := s.rNmeth.isLt
  have hd := s.rDlen.isLt
  simp only [ResReg.valid, Bool.and_eq_false_imp, decide_eq_false_iff_not]
  refine ⟨fun h _ => by omega, fun h _ => by omega, fun h => ⟨fun _ => by omega, fun _ => by omega⟩⟩

/-- Settles O44: each row's condition is the register's `valid`, and each row's contents the register's. -/
theorem readsAnswerExactlyWhenValid : Obligations.ReadsAnswerExactlyWhenValid := by
  intro s ok err handshake request address hok herr hhandshake hrequest haddress
  rw [← hasStatus_iff] at hok herr
  rw [hok, ← hasKind_iff] at hhandshake hrequest
  rw [hok, ← hasAddress_iff] at haddress
  rw [hok, herr, hhandshake, hrequest, haddress]
  refine ⟨?status, ?kind, ?_, ?_, ?_, ?methods, ?_, ?_, ?_, ?ip4, ?ip6, ?_, ?_, ?_, ?name, ?_, ?_, ?_, ?_, ?_, ?_, ?_, ?_, ?_,
    ?beyond, ?flags⟩
  case status =>
    refine readsWhen_of_valid (by simp [ResReg.valid]) fun _ => ?_
    cases h : s.resStatus <;> simp [ResReg.contents, h, Status.code]
  case kind =>
    refine readsWhen_of_valid (by simp [ResReg.valid]) fun _ => ?_
    cases h : s.resKind <;> simp [ResReg.contents, h, Kind.code]
  case methods => exact fun i => readsWhen_of_valid (by simp [ResReg.valid]) fun _ => bits_arrayByte s.rMethods i
  case ip4 => exact fun i => readsWhen_of_valid (by simp [ResReg.valid, hasAtyp_iff]) fun _ => bits_arrayByte s.rIp4 i
  case ip6 => exact fun i => readsWhen_of_valid (by simp [ResReg.valid, hasAtyp_iff]) fun _ => bits_arrayByte s.rIp6 i
  case name => exact fun i => readsWhen_of_valid (by simp [ResReg.valid, hasAtyp_iff, and_assoc]) fun _ => bits_arrayByte s.rName i
  case beyond =>
    intro i
    obtain ⟨h4, h6, hn⟩ := not_valid_beyond (s := s) i
    exact ⟨fun hi => readRes_of_not_valid (h4 hi), fun hi => readRes_of_not_valid (h6 hi),
      fun hi => ⟨readRes_of_not_valid (hn hi).1, readRes_of_not_valid (hn hi).2⟩⟩
  case flags => rfl
  all_goals
    exact readsWhen_of_valid (by simp [ResReg.valid, hasAtyp_iff, hasKind_iff, hasStatus_iff, and_assoc, or_assoc]) fun _ => rfl

/-! ## Two blocks that look alike -/

/-- Outside DONE the answers to the reads are those of the status alone. -/
theorem readRes_eq_of_not_done (hs : s.phase ≠ .done) (ht : t.phase ≠ .done) (hst : s.resStatus = t.resStatus) (r : ResReg) :
    readRes r s = readRes r t := by
  by_cases hr : r = .resStatus
  · subst hr
    rw [readRes_of_valid rfl, readRes_of_valid rfl, ResReg.contents, ResReg.contents, hst]
  · rw [readRes_of_not_valid (not_valid_outside_done hs hr), readRes_of_not_valid (not_valid_outside_done ht hr)]

/-- Settles O47: both blocks are in the state `onAbort` leaves, idle with every flag but `shut_wr` cleared. -/
theorem abortHidesTheOperation : Obligations.AbortHidesTheOperation := by
  intro s s' t t' hw h h'
  obtain ⟨-, hd⟩ := onEvent_next h
  obtain ⟨-, hd'⟩ := onEvent_next h'
  cases hd
  cases hd'
  refine ⟨?_, readRes_eq_of_not_done (s := onAbort s) (t := onAbort s') (by simp) (by simp) rfl⟩
  simp only [State.flagView, State.busy, State.resValid, onAbort_fields, hw]

/-- A sound BUSY block asks for a byte unless it asks for the shutdown. -/
theorem Sound.rdReq_eq_of_busy (h : Sound s) (hp : s.phase = .busy) : s.rdReq = !s.shutReq := by
  have hwaits := h.flags.busy_waits hp
  have hboth := h.flags.not_both
  cases hr : s.rdReq <;> cases hs : s.shutReq <;> simp [hr, hs] at hwaits hboth ⊢

/-- Settles O48: in BUSY the flags are the phase's, the two requests and `shut_wr`, and only RES_STATUS, which is NONE, is valid. -/
theorem busyShowsOnlyTheRequest : Obligations.BusyShowsOnlyTheRequest := by
  intro s s' h h' hp hp' hs hw
  have hdone : s.phase ≠ .done := by simp [hp]
  have hdone' : s'.phase ≠ .done := by simp [hp']
  refine ⟨?_, readRes_eq_of_not_done hdone hdone' ((h.status_none hdone).trans (h'.status_none hdone').symm)⟩
  simp only [State.flagView, State.busy, State.resValid, hp, hp', hs, hw, h.rdReq_eq_of_busy hp, h'.rdReq_eq_of_busy hp']

/-! ## The views -/

/-- Settles O49: a view answers exactly where its operands are valid, and `be16_toNat` and `be32_toNat` say what it composes. -/
theorem viewsAreBigEndian : Obligations.ViewsAreBigEndian := by
  intro s
  refine ⟨fun h => ⟨_, if_pos h, ?ip4⟩, fun h i => ⟨_, if_pos (by rw [h, Bool.true_and, decide_eq_true i.isLt]), ?ip6⟩,
    fun h => if_neg (by rw [h]; decide), fun h i => if_neg (by rw [h, Bool.false_and]; decide)⟩
  case ip4 =>
    rw [be32_toNat, arrayByte_eq s.rIp4 (i := 0) (by decide), arrayByte_eq s.rIp4 (i := 1) (by decide),
      arrayByte_eq s.rIp4 (i := 2) (by decide), arrayByte_eq s.rIp4 (i := 3) (by decide)]
  case ip6 =>
    have hi := i.isLt
    rw [be16_toNat, arrayByte_eq s.rIp6 (i := 2 * i.val) (by simp only [Config.ip6Bytes]; omega),
      arrayByte_eq s.rIp6 (i := 2 * i.val + 1) (by simp only [Config.ip6Bytes]; omega)]

/-! ## Several instances -/

/-- Settles O59: the system's step writes the next state of block `k` in its place. -/
theorem instancesAreIndependent : Obligations.InstancesAreIndependent := by
  intro n sys sys' k h
  unfold System.stepAt at h
  cases hs : step sys[k] with
  | next t =>
    rw [hs] at h
    cases h
    refine ⟨by simp, fun j hj => ?_⟩
    have hne : k.val ≠ j.val := fun h => hj (Fin.ext h.symm)
    simp [hne]
  | fault r => rw [hs] at h; cases h
  | refused r => rw [hs] at h; cases h

end Sys2Proof.Machine
end

section
/-! PROOFS. Lossy UTF-8 (41_address section 4, R432) and the length of a decoded address (44_wire_length section 4, R514). -/

namespace Sys2Proof.Machine

/-! ## The table's rows -/

/-- The byte lies in a row's range for its place. -/
def InRange (range : Byte × Byte) (b : Byte) : Prop := range.1 ≤ b ∧ b ≤ range.2

/-- `seq` is a whole sequence of the row: each byte in its range. -/
def Fits (row : List (Byte × Byte)) (seq : List Byte) : Prop := List.Forall₂ InRange row seq

variable {row row' : List (Byte × Byte)} {seq rest bs : List Byte}

theorem rowFit_eq_length (h : Fits row seq) (rest : List Byte) : rowFit row (seq ++ rest) = row.length := by
  induction h with
  | nil => simp [rowFit]
  | cons hb _ ih =>
    obtain ⟨hlo, hhi⟩ := hb
    rw [List.cons_append, rowFit, if_pos ⟨hlo, hhi⟩, ih, List.length_cons, Nat.add_comm]

/-- A row that fits in its whole length fits the first bytes. -/
theorem fits_of_rowFit (row : List (Byte × Byte)) :
    ∀ bs : List Byte, rowFit row bs = row.length → Fits row (bs.take row.length) := by
  induction row with
  | nil => exact fun _ _ => List.Forall₂.nil
  | cons range row ih =>
    intro bs h
    cases bs with
    | nil => simp [rowFit] at h
    | cons b bs =>
      rw [rowFit] at h
      split at h
      case isTrue hb => exact List.Forall₂.cons hb (ih bs (by simpa [Nat.add_comm] using h))
      case isFalse => simp at h

/-- The first byte is one a row may begin with. -/
def headFits : List (Byte × Byte) → Byte → Bool
  | [], _ => false
  | (lo, hi) :: _, b => lo ≤ b && b ≤ hi

theorem headFits_of_rowFit {b : Byte} (h : rowFit row (b :: bs) ≠ 0) : headFits row b = true := by
  cases row with
  | nil => simp [rowFit] at h
  | cons range row =>
    rw [rowFit] at h
    split at h
    · simpa [headFits] using ‹_›
    · simp at h

/-- No two rows of the table begin with the same byte. -/
theorem row_eq_of_headFits : ∀ b : Byte, ∀ row ∈ utf8Rows, ∀ row' ∈ utf8Rows, headFits row b = true → headFits row' b = true →
    row = row' := by decide +kernel

theorem row_eq_of_rowFit (hr : row ∈ utf8Rows) (hr' : row' ∈ utf8Rows) (h : rowFit row bs ≠ 0) (h' : rowFit row' bs ≠ 0) :
    row = row' := by
  cases bs with
  | nil => cases row <;> simp [rowFit] at h
  | cons b bs => exact row_eq_of_headFits b row hr row' hr' (headFits_of_rowFit h) (headFits_of_rowFit h')

theorem row_ne_nil : ∀ row ∈ utf8Rows, 1 ≤ row.length := by decide

/-! ## One turn of the loop -/

theorem foldl_max_le_iff (l : List Nat) : ∀ a k : Nat, l.foldl max a ≤ k ↔ a ≤ k ∧ ∀ x ∈ l, x ≤ k := by
  induction l with
  | nil => simp
  | cons x l ih => simp [ih, and_assoc]

/-- The longest fit is the length of a row that fits in its whole length: no other row begins with that byte. -/
theorem longestFit_eq_length (hr : row ∈ utf8Rows) (h : rowFit row bs = row.length) : longestFit bs = row.length := by
  have hpos := row_ne_nil row hr
  apply Nat.le_antisymm
  · refine (foldl_max_le_iff _ _ _).mpr ⟨Nat.zero_le _, fun x hx => ?_⟩
    obtain ⟨row', hr', rfl⟩ := List.mem_map.mp hx
    by_cases h0 : rowFit row' bs = 0
    · simp [h0]
    · rw [row_eq_of_rowFit hr' hr h0 (by omega), h]
  · obtain ⟨-, hall⟩ := (foldl_max_le_iff (utf8Rows.map (rowFit · bs)) 0 (longestFit bs)).mp (Nat.le_refl _)
    exact h ▸ hall _ (List.mem_map_of_mem hr)

theorem completeFit_iff {k : Nat} : completeFit k bs = true ↔ ∃ row ∈ utf8Rows, row.length = k ∧ rowFit row bs = k := by
  simp [completeFit]

/-- A turn that meets a whole sequence of the table gives its scalar value and goes on behind it. -/
theorem lossyLoop_fits (hr : row ∈ utf8Rows) (h : Fits row seq) (fuel : Nat) :
    lossyLoop (fuel + 1) (seq ++ rest) = scalarOf seq :: lossyLoop fuel rest := by
  have hlen : row.length = seq.length := List.Forall₂.length_eq h
  have hfit := rowFit_eq_length h rest
  have hpos := row_ne_nil row hr
  have hlongest : longestFit (seq ++ rest) = seq.length := (longestFit_eq_length hr hfit).trans hlen
  have hcomplete : completeFit seq.length (seq ++ rest) = true := completeFit_iff.mpr ⟨row, hr, hlen, hfit.trans hlen⟩
  cases seq with
  | nil => simp [hlen] at hpos
  | cons b seq =>
    rw [List.cons_append] at hlongest hcomplete ⊢
    simp only [lossyLoop, hlongest, hcomplete]
    rw [if_pos ⟨by simp, trivial⟩, ← List.cons_append, List.take_left, List.drop_left]

/-! ## Encoding a scalar value -/

theorem isScalar_iff {c : Nat} : isScalar c = true ↔ c < 0xD800 ∨ 0xE000 ≤ c ∧ c < 0x110000 := by
  simp [isScalar]

theorem encodeScalar_one {c : Nat} (h : c < 0x80) : encodeScalar c = [BitVec.ofNat 8 c] := if_pos h

theorem encodeScalar_two {c : Nat} (h : 0x80 ≤ c) (h' : c < 0x800) :
    encodeScalar c = [BitVec.ofNat 8 (0xC0 + c / 64), BitVec.ofNat 8 (0x80 + c % 64)] :=
  (if_neg (by omega)).trans (if_pos h')

theorem encodeScalar_three {c : Nat} (h : 0x800 ≤ c) (h' : c < 0x10000) :
    encodeScalar c =
      [BitVec.ofNat 8 (0xE0 + c / 4096), BitVec.ofNat 8 (0x80 + c / 64 % 64), BitVec.ofNat 8 (0x80 + c % 64)] :=
  (if_neg (by omega)).trans ((if_neg (by omega)).trans (if_pos h'))

theorem encodeScalar_four {c : Nat} (h : 0x10000 ≤ c) :
    encodeScalar c = [BitVec.ofNat 8 (0xF0 + c / 262144), BitVec.ofNat 8 (0x80 + c / 4096 % 64),
      BitVec.ofNat 8 (0x80 + c / 64 % 64), BitVec.ofNat 8 (0x80 + c % 64)] :=
  (if_neg (by omega)).trans ((if_neg (by omega)).trans (if_neg (by omega)))

/-- Each scalar value is encoded as a sequence of the table: the table's rows cut the scalar values into nine ranges. -/
theorem exists_row_encodeScalar {c : Nat} (h : isScalar c = true) : ∃ row ∈ utf8Rows, Fits row (encodeScalar c) := by
  have hc : c < 0xD800 ∨ 0xE000 ≤ c ∧ c < 0x110000 := isScalar_iff.mp h
  obtain h1 | ⟨h1, h2⟩ | ⟨h1, h2⟩ | ⟨h1, h2⟩ | ⟨h1, h2⟩ | ⟨h1, h2⟩ | ⟨h1, h2⟩ | ⟨h1, h2⟩ | ⟨h1, h2⟩ :
      c < 0x80 ∨ (0x80 ≤ c ∧ c < 0x800) ∨ (0x800 ≤ c ∧ c < 0x1000) ∨ (0x1000 ≤ c ∧ c < 0xD000) ∨ (0xD000 ≤ c ∧ c < 0xD800) ∨
      (0xE000 ≤ c ∧ c < 0x10000) ∨ (0x10000 ≤ c ∧ c < 0x40000) ∨ (0x40000 ≤ c ∧ c < 0x100000) ∨
      (0x100000 ≤ c ∧ c < 0x110000) := by omega
  · refine ⟨[(0x00, 0x7F)], by decide, ?_⟩
    rw [encodeScalar_one h1]
    simp only [Fits, List.forall₂_cons, List.forall₂_nil_left_iff, InRange, and_true]
    bv_omega
  · refine ⟨[(0xC2, 0xDF), (0x80, 0xBF)], by decide, ?_⟩
    rw [encodeScalar_two h1 h2]
    simp only [Fits, List.forall₂_cons, List.forall₂_nil_left_iff, InRange, and_true]
    bv_omega
  · refine ⟨[(0xE0, 0xE0), (0xA0, 0xBF), (0x80, 0xBF)], by decide, ?_⟩
    rw [encodeScalar_three h1 (by omega)]
    simp only [Fits, List.forall₂_cons, List.forall₂_nil_left_iff, InRange, and_true]
    bv_omega
  · refine ⟨[(0xE1, 0xEC), (0x80, 0xBF), (0x80, 0xBF)], by decide, ?_⟩
    rw [encodeScalar_three (by omega) (by omega)]
    simp only [Fits, List.forall₂_cons, List.forall₂_nil_left_iff, InRange, and_true]
    bv_omega
  · refine ⟨[(0xED, 0xED), (0x80, 0x9F), (0x80, 0xBF)], by decide, ?_⟩
    rw [encodeScalar_three (by omega) (by omega)]
    simp only [Fits, List.forall₂_cons, List.forall₂_nil_left_iff, InRange, and_true]
    bv_omega
  · refine ⟨[(0xEE, 0xEF), (0x80, 0xBF), (0x80, 0xBF)], by decide, ?_⟩
    rw [encodeScalar_three (by omega) h2]
    simp only [Fits, List.forall₂_cons, List.forall₂_nil_left_iff, InRange, and_true]
    bv_omega
  · refine ⟨[(0xF0, 0xF0), (0x90, 0xBF), (0x80, 0xBF), (0x80, 0xBF)], by decide, ?_⟩
    rw [encodeScalar_four h1]
    simp only [Fits, List.forall₂_cons, List.forall₂_nil_left_iff, InRange, and_true]
    bv_omega
  · refine ⟨[(0xF1, 0xF3), (0x80, 0xBF), (0x80, 0xBF), (0x80, 0xBF)], by decide, ?_⟩
    rw [encodeScalar_four (by omega)]
    simp only [Fits, List.forall₂_cons, List.forall₂_nil_left_iff, InRange, and_true]
    bv_omega
  · refine ⟨[(0xF4, 0xF4), (0x80, 0x8F), (0x80, 0xBF), (0x80, 0xBF)], by decide, ?_⟩
    rw [encodeScalar_four (by omega)]
    simp only [Fits, List.forall₂_cons, List.forall₂_nil_left_iff, InRange, and_true]
    bv_omega

theorem scalarOf_encodeScalar {c : Nat} (h : isScalar c = true) : scalarOf (encodeScalar c) = c := by
  have hc : c < 0xD800 ∨ 0xE000 ≤ c ∧ c < 0x110000 := isScalar_iff.mp h
  obtain h1 | ⟨h1, h2⟩ | ⟨h1, h2⟩ | h1 : c < 0x80 ∨ (0x80 ≤ c ∧ c < 0x800) ∨ (0x800 ≤ c ∧ c < 0x10000) ∨ 0x10000 ≤ c := by omega
  · rw [encodeScalar_one h1]
    simp only [scalarOf, BitVec.toNat_ofNat]
    omega
  · rw [encodeScalar_two h1 h2]
    simp only [scalarOf, BitVec.toNat_ofNat]
    omega
  · rw [encodeScalar_three h1 h2]
    simp only [scalarOf, BitVec.toNat_ofNat]
    omega
  · rw [encodeScalar_four h1]
    simp only [scalarOf, BitVec.toNat_ofNat]
    omega

theorem length_encodeScalar (c : Nat) : (encodeScalar c).length = scalarLen c := by
  unfold encodeScalar scalarLen
  split_ifs <;> rfl

/-- Well-formed sequences are decoded one by one, given a turn of the loop for each. -/
theorem lossyLoop_flatMap_encodeScalar (cs : List Nat) : ∀ fuel : Nat, (∀ c ∈ cs, isScalar c = true) →
    (cs.flatMap encodeScalar).length ≤ fuel → lossyLoop fuel (cs.flatMap encodeScalar) = cs := by
  induction cs with
  | nil =>
    intro fuel _ _
    cases fuel <;> rfl
  | cons c cs ih =>
    intro fuel hall hfuel
    obtain ⟨row, hr, hfit⟩ := exists_row_encodeScalar (hall c List.mem_cons_self)
    have hpos : 1 ≤ (encodeScalar c).length := List.Forall₂.length_eq hfit ▸ row_ne_nil row hr
    rw [List.flatMap_cons, List.length_append] at hfuel
    obtain ⟨n, rfl⟩ : ∃ n, fuel = n + 1 := ⟨fuel - 1, by omega⟩
    rw [List.flatMap_cons, lossyLoop_fits hr hfit, scalarOf_encodeScalar (hall c List.mem_cons_self),
      ih n (fun d hd => hall d (List.mem_cons_of_mem c hd)) (by omega)]

theorem lossyUtf8_flatMap_encodeScalar {cs : List Nat} (h : ∀ c ∈ cs, isScalar c = true) :
    lossyUtf8 (cs.flatMap encodeScalar) = cs := lossyLoop_flatMap_encodeScalar cs _ h (Nat.le_refl _)

theorem utf8Len_eq_length (cs : List Nat) : utf8Len cs = (cs.flatMap encodeScalar).length := by
  simp [utf8Len, List.length_flatMap, length_encodeScalar]

/-- Settles O51: each sequence is one turn of the loop, and its length is its scalar value's. -/
theorem wellFormedNameDecodesExactly : Obligations.WellFormedNameDecodesExactly := by
  intro cs h
  refine ⟨lossyUtf8_flatMap_encodeScalar h, ?_⟩
  rw [lossyLen, lossyUtf8_flatMap_encodeScalar h, utf8Len_eq_length]

/-! ## Every byte list -/

theorem scalarLen_le (c : Nat) : 1 ≤ scalarLen c ∧ scalarLen c ≤ 4 := by
  unfold scalarLen
  split_ifs <;> omega

section
variable {r1 r2 r3 r4 : Byte × Byte}

theorem fits_one (h : Fits [r1] seq) : ∃ a, seq = [a] ∧ InRange r1 a :=
  match seq, h with
  | [a], .cons ha .nil => ⟨a, rfl, ha⟩

theorem fits_two (h : Fits [r1, r2] seq) : ∃ a b, seq = [a, b] ∧ InRange r1 a ∧ InRange r2 b :=
  match seq, h with
  | [a, b], .cons ha (.cons hb .nil) => ⟨a, b, rfl, ha, hb⟩

theorem fits_three (h : Fits [r1, r2, r3] seq) : ∃ a b c, seq = [a, b, c] ∧ InRange r1 a ∧ InRange r2 b ∧ InRange r3 c :=
  match seq, h with
  | [a, b, c], .cons ha (.cons hb (.cons hc .nil)) => ⟨a, b, c, rfl, ha, hb, hc⟩

theorem fits_four (h : Fits [r1, r2, r3, r4] seq) :
    ∃ a b c d, seq = [a, b, c, d] ∧ InRange r1 a ∧ InRange r2 b ∧ InRange r3 c ∧ InRange r4 d :=
  match seq, h with
  | [a, b, c, d], .cons ha (.cons hb (.cons hc (.cons hd .nil))) => ⟨a, b, c, d, rfl, ha, hb, hc, hd⟩

end

/-- A sequence of the table stands for a scalar value: by rows of one, two, three and four bytes. -/
theorem isScalar_scalarOf (hr : row ∈ utf8Rows) (h : Fits row seq) : isScalar (scalarOf seq) = true := by
  simp only [utf8Rows, List.mem_cons, List.not_mem_nil, or_false] at hr
  rw [isScalar_iff]
  rcases hr with rfl | rfl | hr
  · obtain ⟨a, rfl, ha⟩ := fits_one h
    simp only [InRange] at ha
    rw [scalarOf]
    bv_omega
  · obtain ⟨a, b, rfl, ha, hb⟩ := fits_two h
    simp only [InRange] at ha hb
    rw [scalarOf]
    bv_omega
  rcases hr with rfl | rfl | rfl | rfl | hr
  iterate 4
    · obtain ⟨a, b, c, rfl, ha, hb, hc⟩ := fits_three h
      simp only [InRange] at ha hb hc
      rw [scalarOf]
      bv_omega
  rcases hr with rfl | rfl | rfl
  iterate 3
    · obtain ⟨a, b, c, d, rfl, ha, hb, hc, hd⟩ := fits_four h
      simp only [InRange] at ha hb hc hd
      rw [scalarOf]
      bv_omega

/-- A sequence's scalar value takes at most three times its bytes: one byte stands for a value below 256, and no value takes more
than four. -/
theorem scalarLen_scalarOf_le (hpos : 1 ≤ seq.length) : scalarLen (scalarOf seq) ≤ 3 * seq.length := by
  match seq, hpos with
  | [a], _ =>
    have ha := a.isLt
    have hlen : scalarLen a.toNat ≤ 3 := by
      unfold scalarLen
      split_ifs <;> omega
    exact hlen
  | a :: b :: seq, _ =>
    have := scalarLen_le (scalarOf (a :: b :: seq))
    simp only [List.length_cons]
    omega

theorem rowFit_le_length (row : List (Byte × Byte)) : ∀ bs : List Byte, rowFit row bs ≤ bs.length := by
  induction row with
  | nil => simp [rowFit]
  | cons range row ih =>
    intro bs
    cases bs with
    | nil => simp [rowFit]
    | cons b bs =>
      have := ih bs
      rw [rowFit, List.length_cons]
      split <;> omega

/-- What one turn of the loop puts out, for `k` bytes that are a whole sequence of the table. -/
theorem completeFit_scalar {k : Nat} (hk : 1 ≤ k) (h : completeFit k bs = true) :
    k ≤ bs.length ∧ isScalar (scalarOf (bs.take k)) = true ∧ scalarLen (scalarOf (bs.take k)) ≤ 3 * k := by
  obtain ⟨row, hr, rfl, hfit⟩ := completeFit_iff.mp h
  have hle : row.length ≤ bs.length := hfit ▸ rowFit_le_length row bs
  have hlen : (bs.take row.length).length = row.length := by simp [hle]
  refine ⟨hle, isScalar_scalarOf hr (fits_of_rowFit row bs hfit), ?_⟩
  have := scalarLen_scalarOf_le (seq := bs.take row.length) (by omega)
  rwa [hlen] at this

/-- Each turn of the loop takes a byte at least, and puts out a scalar value of at most three times the bytes it takes. -/
theorem lossyLoop_bounded (fuel : Nat) : ∀ bs : List Byte,
    utf8Len (lossyLoop fuel bs) ≤ 3 * bs.length ∧ ∀ c ∈ lossyLoop fuel bs, isScalar c = true := by
  induction fuel with
  | zero => simp [lossyLoop, utf8Len]
  | succ fuel ih =>
    intro bs
    cases bs with
    | nil => simp [lossyLoop, utf8Len]
    | cons b bs =>
      rw [lossyLoop]
      split
      case isTrue h =>
        obtain ⟨hk, hscalar, hlen⟩ := completeFit_scalar h.1 h.2
        obtain ⟨hrest, hall⟩ := ih ((b :: bs).drop (longestFit (b :: bs)))
        rw [List.length_drop] at hrest
        refine ⟨?_, by simpa using ⟨hscalar, hall⟩⟩
        simp only [utf8Len, List.map_cons, List.sum_cons] at hrest ⊢
        omega
      case isFalse =>
        obtain ⟨hrest, hall⟩ := ih ((b :: bs).drop (max (longestFit (b :: bs)) 1))
        have hthree : scalarLen replacementScalar = 3 := rfl
        rw [List.length_drop] at hrest
        refine ⟨?_, by simpa [show isScalar replacementScalar = true from rfl] using hall⟩
        simp only [utf8Len, List.map_cons, List.sum_cons, hthree, List.length_cons] at hrest ⊢
        omega

/-- Settles O52: by `lossyLoop_bounded`, with a turn of the loop for each byte. -/
theorem lossyLengthIsBounded : Obligations.LossyLengthIsBounded := fun bs => lossyLoop_bounded bs.length bs

/-! ## The length of a decoded address -/

variable {s : State}

theorem length_nameBytes : s.nameBytes.length = s.rDlen.toNat := by
  have := s.rDlen.isLt
  simp only [State.nameBytes, List.length_take, Vector.length_toList, Config.maxDlen]
  omega

/-- Settles O50: an address's length is its tag's, and a well-formed name's length is its byte count by O51. -/
theorem decodedLengthIsConsumed : Obligations.DecodedLengthIsConsumed := by
  intro s cs h hk hname
  obtain ⟨hok, hkind⟩ := hasKind_iff.mp hk
  have haddr : s.hasAddress = true := hasAddress_iff.mpr ⟨hok, .inl hkind⟩
  have hresult : okResult s := h.result.ok_result (hasStatus_iff.mp hok).2
  rw [okResult, hkind] at hresult
  obtain ⟨-, ⟨htag, -⟩, hcount⟩ := hresult
  have hatyp (tag : Byte) : s.hasAtyp tag = true ↔ s.rAtyp = tag := by simp [hasAtyp_iff, haddr]
  rw [hcount, resultLen, State.address]
  simp only [hatyp]
  obtain h1 | h3 | h4 := htag
  · exact ⟨_, if_pos h1, by rw [if_pos h1]; rfl⟩
  · obtain ⟨hbytes, hall⟩ := hname h3
    have hlen : utf8Len (lossyUtf8 s.nameBytes) = s.rDlen.toNat := by
      rw [← lossyLen, hbytes, (wellFormedNameDecodesExactly cs hall).2, ← hbytes, length_nameBytes]
    refine ⟨.domain (lossyUtf8 s.nameBytes) s.rPort, by simp [h3], ?_⟩
    simpa [h3, Address.len] using hlen
  · exact ⟨.ip6 s.rIp6 s.rFlow s.rScope s.rPort, by simp [h4], by simp [h4, Address.len]⟩

end Sys2Proof.Machine
end

section
/-! PROOFS. The step machine and the sequential programs (R210, 00_scope section 6): one read group of the machine is one
`StreamRead` of the program, and the completion between two groups is the program's step between two reads. -/

namespace Sys2Proof.Machine

variable {α β : Type} {s t u v : State} {tail : List Event}

/-! ## Sequential programs -/

theorem SeqRun.andThen_assoc {γ : Type} (x : SeqRun α) (f : α → Nat → List Answer → SeqRun β)
    (g : β → Nat → List Answer → SeqRun γ) : (x.andThen f).andThen g = x.andThen fun a k r => (f a k r).andThen g := by
  cases x <;> rfl

theorem SeqRun.andThen_done (x : SeqRun α) : x.andThen .done = x := by
  cases x <;> rfl

/-! ## Following a program -/

section
variable {holds holds' : State → α → Prop} {x : SeqRun α}

/-- A step of the machine at the front. -/
theorem Follows.of_step (h : step s = .next t) (hx : Follows x t tail holds) : Follows x s tail holds := by
  cases x with
  | done a k rest =>
    obtain ⟨v, hv, hrest⟩ := hx
    exact ⟨v, reaches_step h hv, hrest⟩
  | raised e k rest =>
    obtain ⟨v, hv, hrest⟩ := hx
    exact ⟨v, reaches_step h hv, hrest⟩
  | waits k =>
    obtain ⟨v, hv, hrest⟩ := hx
    exact ⟨v, reaches_step h hv, hrest⟩
  | noMove => exact reachesNoMove_step h hx

/-- A program whose value is `g` of another's, with what the result holds. -/
theorem Follows.map {holds' : State → β → Prop} {g : α → β} (hx : Follows x s tail holds)
    (h : ∀ t a, t.phase = .done → t.resStatus = .ok → holds t a → holds' t (g a)) :
    Follows (x.andThen fun a k r => .done (g a) k r) s tail holds' := by
  cases x with
  | done a k rest =>
    obtain ⟨t, ht, hp, hst, ha, hrest⟩ := hx
    exact ⟨t, ht, hp, hst, h t a hp hst ha, hrest⟩
  | raised e k rest => exact hx
  | waits k => exact hx
  | noMove => exact hx

/-- A weaker account of what the result holds. -/
theorem Follows.mono (hx : Follows x s tail holds) (h : ∀ t a, holds t a → holds' t a) : Follows x s tail holds' := by
  have hmap := hx.map (g := id) fun t a _ _ => h t a
  rwa [show (x.andThen fun a k r => SeqRun.done (id a) k r) = x from x.andThen_done] at hmap

/-- The machine has finished with the program's value. -/
theorem follows_finish {a : α} {k : Nat} {rest : List Answer} {kind : Kind} (hc : u.consumed.toNat = k)
    (hh : u.host = rest.map Answer.event ++ tail) (ha : holds (finish kind u) a) :
    Follows (.done a k rest) (finish kind u) tail holds :=
  ⟨_, reaches_refl _, rfl, rfl, ha, hc, hh⟩

theorem reportsErr_raise (e : Err) (s : State) : ReportsErr (raise e s) e := by
  refine ⟨rfl, rfl, fun a ha => by simp [ha], fun c hc => ⟨by simp [hc], fun n hn => by simp [hc, hn]⟩⟩

/-- The machine has raised the program's error. -/
theorem follows_raise {e : Err} {k : Nat} {rest : List Answer} (hc : u.consumed.toNat = k)
    (hh : u.host = rest.map Answer.event ++ tail) : Follows (α := α) (.raised e k rest) (raise e u) tail holds :=
  ⟨_, reaches_refl _, rfl, reportsErr_raise e u, hc, hh⟩

/-- An answer that is not enabled ends the run. -/
theorem reachesNoMove_of_not_enabled {e : Event} {rest : List Event} (hh : s.host = e :: rest)
    (he : enabled e (withHost rest s) = false) : ReachesNoMove s := by
  refine ⟨1, ?_⟩
  have hstep : Host.Core.step core s = .fault .notEnabled := (step_cons hh).trans (onEvent_not_enabled he)
  simp only [Host.Core.run, hstep]

end

/-! ## One read group -/

/-- The block waits for `n` more bytes of a group, after `taken` bytes of the operation. -/
structure Reading (s : State) (n taken : Nat) : Prop where
  busy : s.phase = .busy
  rdReq : s.rdReq = true
  shutReq : s.shutReq = false
  need : s.need.toNat = n
  consumed : s.consumed.toNat = taken
  room : s.gcnt.toNat + n ≤ 257
  fits : taken + n < 65536

/-- From `s`, the block has read the rest `bs` of its group and stands in `v`, before the group's completion. -/
structure GroupRead (s v : State) (bs : List Byte) (taken : Nat) (events : List Event) : Prop where
  frame : v = { s with
    rdReq := false, need := 0, gbuf := v.gbuf, gcnt := v.gcnt, consumed := v.consumed, streamPos := v.streamPos, host := events }
  consumed : v.consumed.toNat = taken
  bytes : ∀ i < bs.length, v.gbyte (s.gcnt.toNat + i) = at0 bs i
  earlier : ∀ i < s.gcnt.toNat, v.gbyte i = s.gbyte i

theorem gbyte_takeByte_withHost {b : Byte} {events : List Event} {i : Nat} (h : s.gcnt.toNat < 257) :
    (takeByte b (withHost events s)).gbyte i = if i = s.gcnt.toNat then b else s.gbyte i :=
  gbyte_takeByte (s := withHost events s) b i h

/-- One byte of the group taken, and one less to read. -/
theorem Reading.takeByte {n taken : Nat} {b : Byte} {events : List Event} (h : Reading s (n + 1) taken) (hn : 0 < n) :
    s.need ≠ 1 ∧ Reading (takeByte b (withHost events s)) n (taken + 1) := by
  obtain ⟨hp, hr, hs, hneed, hc, hroom, hfits⟩ := h
  refine ⟨by bv_omega, hp, hr, hs, ?_, ?_, ?_, by omega⟩
  · simp only [takeByte_fields, withHost_fields]
    bv_omega
  · simp only [takeByte_fields, withHost_fields]
    bv_omega
  · have hg : (s.gcnt + 1).toNat = s.gcnt.toNat + 1 := by bv_omega
    simp only [takeByte_fields, withHost_fields, hg]
    omega

/-- The group's last byte completes it. -/
theorem Reading.groupRead {taken : Nat} {b : Byte} {events : List Event} (h : Reading s 1 taken) :
    s.need = 1 ∧ GroupRead s (closeGroup (Machine.takeByte b (withHost events s))) [b] (taken + 1) events := by
  obtain ⟨hp, hr, hs, hneed, hc, hroom, hfits⟩ := h
  have hn : s.need = 1 := BitVec.eq_of_toNat_eq hneed
  have hg : s.gcnt.toNat < 257 := by omega
  refine ⟨hn, ?_, ?_, ?_, ?_⟩
  · have hzero : s.need - 1 = 0 := by simp [hn]
    rw [← hzero]
    rfl
  · simp only [closeGroup_fields, takeByte_fields, withHost_fields]
    bv_omega
  · intro i hi
    obtain rfl : i = 0 := by simpa using hi
    rw [gbyte_closeGroup, gbyte_takeByte_withHost hg, if_pos (Nat.add_zero _)]
    rfl
  · intro i hi
    rw [gbyte_closeGroup, gbyte_takeByte_withHost hg, if_neg (by omega)]

/-- The bytes read behind a first byte are, with it, the bytes of the group. -/
theorem GroupRead.cons {bs : List Byte} {b : Byte} {taken : Nat} {events events' : List Event} (hg : s.gcnt.toNat < 257)
    (h : GroupRead (takeByte b (withHost events' s)) v bs taken events) : GroupRead s v (b :: bs) taken events := by
  have hnext : (takeByte b (withHost events' s)).gcnt.toNat = s.gcnt.toNat + 1 := by
    simp only [takeByte_fields, withHost_fields]
    bv_omega
  refine ⟨h.frame, h.consumed, fun i hi => ?_, fun i hi => ?_⟩
  · cases i with
    | zero =>
      rw [Nat.add_zero, h.earlier _ (by omega), gbyte_takeByte_withHost hg, if_pos rfl]
      rfl
    | succ i =>
      have := h.bytes i (by simpa using hi)
      rwa [hnext, Nat.add_assoc, Nat.add_comm 1] at this
  · rw [h.earlier _ (by omega), gbyte_takeByte_withHost hg, if_neg (by omega)]

/-- Where no byte is presented, the read waits, ends with the transport's error, or has no move, as the program says (R212,
R213). -/
theorem Reading.follows_no_byte {holds : State → α → Prop} {n taken : Nat} {answers : List Answer}
    {f : List Byte → Nat → List Answer → SeqRun α} (h : Reading s (n + 1) taken) (hh : s.host = answers.map Answer.event ++ tail)
    (hb : ¬∃ b rest, answers = .byte b :: rest) : Follows ((streamRead (n + 1) taken answers).andThen f) s tail holds := by
  cases answers with
  | nil => exact ⟨s, reaches_refl s, h.busy, h.consumed, hh⟩
  | cons a rest =>
    cases a with
    | byte b => exact absurd ⟨b, rest, rfl⟩ hb
    | eof =>
      refine .of_step ((step_cons hh).trans (onEvent_eof (s := withHost (rest.map Answer.event ++ tail) s) h.rdReq)) ?_
      exact follows_raise h.consumed rfl
    | rdErr e =>
      refine .of_step ((step_cons hh).trans (onEvent_rdErr (s := withHost (rest.map Answer.event ++ tail) s) h.rdReq)) ?_
      exact follows_raise h.consumed rfl
    | shutOk => exact reachesNoMove_of_not_enabled hh h.shutReq
    | shutErr e => exact reachesNoMove_of_not_enabled hh h.shutReq

/-- `StreamRead` and the read group (R210, R211): from an open group of `n + 1` missing bytes, the machine follows the program that
reads them and goes on with `f`, if it follows `f` from the completion of every such group. -/
theorem follows_streamRead {holds : State → α → Prop} (n : Nat) : ∀ (s : State) (taken : Nat) (answers : List Answer)
    (f : List Byte → Nat → List Answer → SeqRun α), Reading s (n + 1) taken → s.host = answers.map Answer.event ++ tail →
    (∀ (v : State) (bs : List Byte) (rest : List Answer), bs.length = n + 1 →
      GroupRead s v bs (taken + (n + 1)) (rest.map Answer.event ++ tail) →
      ∃ t, complete v = .next t ∧ Follows (f bs (taken + (n + 1)) rest) t tail holds) →
    Follows ((streamRead (n + 1) taken answers).andThen f) s tail holds := by
  induction n with
  | zero =>
    intro s taken answers f h hh hf
    by_cases hb : ∃ b rest, answers = .byte b :: rest
    · obtain ⟨b, rest, rfl⟩ := hb
      obtain ⟨hn, hgroup⟩ := h.groupRead
      obtain ⟨t, ht, hfollows⟩ := hf _ [b] rest rfl hgroup
      have hstep : step s = .next t := 
        (step_byte hh h.rdReq).trans ((onByte_last (s := withHost (rest.map Answer.event ++ tail) s) hn).trans ht)
      exact Follows.of_step (x := f [b] (taken + 1) rest) hstep hfollows
    · exact h.follows_no_byte hh hb
  | succ n ih =>
    intro s taken answers f h hh hf
    by_cases hb : ∃ b rest, answers = .byte b :: rest
    · obtain ⟨b, rest, rfl⟩ := hb
      have hroom : s.gcnt.toNat < 257 := by have := h.room; omega
      obtain ⟨hn, hread⟩ := h.takeByte (b := b) (events := rest.map Answer.event ++ tail) (Nat.succ_pos n)
      have hcount : taken + 1 + (n + 1) = taken + (n + 1 + 1) := by omega
      rw [streamRead, SeqRun.andThen_assoc]
      have hstep : step s = .next (takeByte b (withHost (rest.map Answer.event ++ tail) s)) :=
        (step_byte hh h.rdReq).trans (onByte_more (s := withHost (rest.map Answer.event ++ tail) s) hn)
      refine .of_step hstep (ih _ _ rest _ hread rfl fun v bs rest' hlen hgroup => ?_)
      rw [hcount] at hgroup ⊢
      exact hf v (b :: bs) rest' (by simp [hlen]) (hgroup.cons hroom)
    · exact h.follows_no_byte hh hb

theorem gcnt_enter (f : Fsm) (n : BitVec 9) (s : State) : (enter f n s).gcnt.toNat = 0 := rfl

/-- A group that has just been opened is read from its first byte. -/
theorem follows_enter {holds : State → α → Prop} {f : Fsm} {n : BitVec 9} {taken : Nat} {answers : List Answer}
    {next : List Byte → Nat → List Answer → SeqRun α} (hp : u.phase = .busy) (hs : u.shutReq = false)
    (hc : u.consumed.toNat = taken) (hh : u.host = answers.map Answer.event ++ tail) (hn : 0 < n.toNat) (hroom : n.toNat ≤ 257)
    (htaken : taken ≤ 257)
    (hnext : ∀ (v : State) (bs : List Byte) (rest : List Answer), bs.length = n.toNat →
      GroupRead (enter f n u) v bs (taken + n.toNat) (rest.map Answer.event ++ tail) →
      ∃ t, complete v = .next t ∧ Follows (next bs (taken + n.toNat) rest) t tail holds) :
    Follows ((streamRead n.toNat taken answers).andThen next) (enter f n u) tail holds := by
  obtain ⟨m, hm⟩ : ∃ m, n.toNat = m + 1 := ⟨n.toNat - 1, by omega⟩
  have hread : Reading (enter f n u) (m + 1) taken :=
    ⟨hp, rfl, hs, hm, hc, by rw [gcnt_enter]; omega, by omega⟩
  rw [hm] at hnext ⊢
  exact follows_streamRead m (enter f n u) taken answers next hread hh hnext

/-! ## A group that has been read -/

section
variable {f : Fsm} {n : BitVec 9} {bs : List Byte} {k : Nat} {events : List Event}

/-- The bytes of a group read from its first byte. -/
theorem GroupRead.gbyte (h : GroupRead (enter f n u) v bs k events) {i : Nat} (hi : i < bs.length) : v.gbyte i = at0 bs i := by
  have := h.bytes i hi
  rwa [gcnt_enter, Nat.zero_add] at this

/-- Reading a group writes no register but the group's: what the completion and the program rest on. -/
theorem GroupRead.fields (h : GroupRead (enter f n u) v bs k events) :
    v.fsm = f ∧ v.need = 0 ∧ v.host = events ∧ v.phase = u.phase ∧ v.shutReq = u.shutReq ∧ v.rdReq = false ∧ v.op = u.op ∧
      v.allowDomain = u.allowDomain ∧ v.rVer = u.rVer ∧ v.rCmd = u.rCmd ∧ v.rRsv = u.rRsv ∧ v.rAtyp = u.rAtyp ∧
      v.rDlen = u.rDlen ∧ v.rIp6 = u.rIp6 ∧ v.rNmeth = u.rNmeth := by
  rw [h.frame]
  exact ⟨rfl, rfl, rfl, rfl, rfl, rfl, rfl, rfl, rfl, rfl, rfl, rfl, rfl, rfl, rfl⟩

/-- A whole array copied from a group. -/
theorem GroupRead.copyGroup_full {m : Nat} {dst : Vector Byte m} (h : GroupRead (enter f n u) v bs k events) (hm : m ≤ bs.length) :
    copyGroup v m dst = Vector.ofFn fun i => at0 bs i.val := by
  ext i hi
  rw [copyGroup_get, if_pos hi, h.gbyte (by omega), Vector.getElem_ofFn]

/-- The first bytes of an array copied from a group. -/
theorem GroupRead.take_copyGroup {m j : Nat} {dst : Vector Byte m} (h : GroupRead (enter f n u) v bs k events) (hm : j ≤ m)
    (hj : j ≤ bs.length) : (copyGroup v j dst).toList.take j = bs.take j := by
  apply List.ext_getElem
  · simp [hm, hj]
  · intro i hi hi'
    have hij : i < j := by simp at hi; omega
    rw [List.getElem_take, Vector.getElem_toList, copyGroup_get, if_pos hij, h.gbyte (by omega), List.getElem_take, at0,
      List.getD_eq_getElem]

end
end Sys2Proof.Machine
end

section
/-! PROOFS. The operations of the stream and their sequential programs (41_address, 42_handshake, 43_request_header; R420, R421,
R450, R480). -/

namespace Sys2Proof.Machine

variable {s t u v : State} {tail : List Event} {answers : List Answer} {taken : Nat}

/-! ## What an address result holds -/

/-- The result is the wire address `a`, of the kind of the operation `op`, behind the header registers `ver`, `cmd` and `rsv`. -/
structure HoldsAddress (op : BitVec 4) (ver cmd rsv : Byte) (t : State) (a : WireAddress) : Prop where
  wireAddress : t.wireAddress = .ok a
  address : t.address = .ok a.value
  kind : t.resKind = if op = 0x4 then .request else .address
  rVer : t.rVer = ver
  rCmd : t.rCmd = cmd
  rRsv : t.rRsv = rsv

theorem hasAtyp_addrDone (tag : Byte) : (addrDone u).hasAtyp tag = true ↔ u.rAtyp = tag := by
  have hok : (addrDone u).hasStatus .ok = true := hasStatus_iff.mpr (by simp)
  have haddr : (addrDone u).hasAddress = true := by
    rw [hasAddress_iff]
    refine ⟨hok, ?_⟩
    simp only [addrDone_fields]
    split_ifs <;> simp
  rw [hasAtyp_iff]
  simp [haddr]

theorem holdsAddress_ip4 (h : u.rAtyp = 0x01) :
    HoldsAddress u.op u.rVer u.rCmd u.rRsv (addrDone u) (.ip4 u.rIp4 u.rPort) := by
  refine ⟨?_, ?_, by simp, by simp, by simp, by simp⟩ <;>
    simp [State.wireAddress, State.address, hasAtyp_addrDone, h, WireAddress.value]

theorem holdsAddress_ip6 (h : u.rAtyp = 0x04) (hf : u.rFlow = 0) (hs : u.rScope = 0) :
    HoldsAddress u.op u.rVer u.rCmd u.rRsv (addrDone u) (.ip6 u.rIp6 u.rPort) := by
  refine ⟨?_, ?_, by simp, by simp, by simp, by simp⟩ <;>
    simp [State.wireAddress, State.address, hasAtyp_addrDone, h, hf, hs, WireAddress.value]

theorem holdsAddress_domain (h : u.rAtyp = 0x03) :
    HoldsAddress u.op u.rVer u.rCmd u.rRsv (addrDone u) (.domain (u.rName.toList.take u.rDlen.toNat) u.rPort) := by
  refine ⟨?_, ?_, by simp, by simp, by simp, by simp⟩ <;>
    simp [State.wireAddress, State.address, hasAtyp_addrDone, h, WireAddress.value, State.nameBytes]

/-- The machine has finished an address. -/
theorem follows_addrDone {holds : State → WireAddress → Prop} {a : WireAddress} {rest : List Answer} (hc : u.consumed.toNat = taken)
    (hh : u.host = rest.map Answer.event ++ tail) (ha : holds (addrDone u) a) :
    Follows (.done a taken rest) (addrDone u) tail holds := by
  rw [addrDone_eq] at ha ⊢
  exact follows_finish hc hh ha

/-! ## The bodies of an address -/

/-- The six bytes of an IPv4 address (R424). -/
theorem follows_ip4 (hp : u.phase = .busy) (hs : u.shutReq = false) (htag : u.rAtyp = 0x01) (hc : u.consumed.toNat = taken)
    (htaken : taken ≤ 4) (hh : u.host = answers.map Answer.event ++ tail) :
    Follows ((streamRead 6 taken answers).andThen fun b k r =>
      .done (.ip4 (Vector.ofFn fun i => at0 b i.val) (be16 (at0 b 4) (at0 b 5))) k r) (enter .adV4 6 u) tail
      (HoldsAddress u.op u.rVer u.rCmd u.rRsv) := by
  refine follows_enter (n := 6) hp hs hc hh (by decide) (by decide) (by omega) fun v bs rest hlen hv => ?_
  replace hlen : bs.length = 6 := hlen
  obtain ⟨hf, -, hhost, -, -, -, hop, -, hver, hcmd, hrsv, hatyp, -⟩ := hv.fields
  have hip : copyGroup v 4 v.rIp4 = Vector.ofFn fun i => at0 bs i.val := hv.copyGroup_full (hlen ▸ by decide)
  have hport : be16 (v.gbyte 4) (v.gbyte 5) = be16 (at0 bs 4) (at0 bs 5) := by
    rw [hv.gbyte (by omega), hv.gbyte (by omega)]
  refine ⟨completeAdV4 v, by simp only [complete, hf], ?_⟩
  rw [← hop, ← hver, ← hcmd, ← hrsv, ← hip, ← hport]
  exact follows_addrDone hv.consumed hhost (holdsAddress_ip4
    (u := { v with rIp4 := copyGroup v 4 v.rIp4, rPort := be16 (v.gbyte 4) (v.gbyte 5) }) (hatyp.trans htag))

/-- The two bytes of an IPv6 address's port, behind the address (R425). -/
theorem follows_ip6_port (hp : u.phase = .busy) (hs : u.shutReq = false) (htag : u.rAtyp = 0x04) (hc : u.consumed.toNat = taken)
    (htaken : taken ≤ 20) (hh : u.host = answers.map Answer.event ++ tail) :
    Follows ((streamRead 2 taken answers).andThen fun p k r => .done (.ip6 u.rIp6 (be16 (at0 p 0) (at0 p 1))) k r)
      (enter .adV6P 2 u) tail (HoldsAddress u.op u.rVer u.rCmd u.rRsv) := by
  refine follows_enter (n := 2) hp hs hc hh (by decide) (by decide) (by omega) fun v bs rest hlen hv => ?_
  replace hlen : bs.length = 2 := hlen
  obtain ⟨hf, -, hhost, -, -, -, hop, -, hver, hcmd, hrsv, hatyp, -, hip, -⟩ := hv.fields
  have hport : be16 (v.gbyte 0) (v.gbyte 1) = be16 (at0 bs 0) (at0 bs 1) := by
    rw [hv.gbyte (by omega), hv.gbyte (by omega)]
  refine ⟨completeAdV6P v, by simp only [complete, hf], ?_⟩
  rw [← hop, ← hver, ← hcmd, ← hrsv, ← hip, ← hport]
  exact follows_addrDone hv.consumed hhost (holdsAddress_ip6
    (u := { v with rPort := be16 (v.gbyte 0) (v.gbyte 1), rFlow := 0, rScope := 0 }) (hatyp.trans htag) rfl rfl)

/-- The sixteen bytes of an IPv6 address, and its port (R425). -/
theorem follows_ip6 (hp : u.phase = .busy) (hs : u.shutReq = false) (htag : u.rAtyp = 0x04) (hc : u.consumed.toNat = taken)
    (htaken : taken ≤ 4) (hh : u.host = answers.map Answer.event ++ tail) :
    Follows ((streamRead 16 taken answers).andThen fun a k r => (streamRead 2 k r).andThen fun p k r =>
      .done (.ip6 (Vector.ofFn fun i => at0 a i.val) (be16 (at0 p 0) (at0 p 1))) k r) (enter .adV6A 16 u) tail
      (HoldsAddress u.op u.rVer u.rCmd u.rRsv) := by
  refine follows_enter (n := 16) hp hs hc hh (by decide) (by decide) (by omega) fun v bs rest hlen hv => ?_
  replace hlen : bs.length = 16 := hlen
  obtain ⟨hf, -, hhost, hphase, hshut, -, hop, -, hver, hcmd, hrsv, hatyp, -⟩ := hv.fields
  have hip : copyGroup v 16 v.rIp6 = Vector.ofFn fun i => at0 bs i.val := hv.copyGroup_full (hlen ▸ by decide)
  refine ⟨completeAdV6A v, by simp only [complete, hf], ?_⟩
  rw [← hop, ← hver, ← hcmd, ← hrsv, ← hip]
  exact follows_ip6_port (u := { v with rIp6 := copyGroup v 16 v.rIp6 }) (hphase.trans hp) (hshut.trans hs) (hatyp.trans htag)
    hv.consumed (Nat.add_le_add_right htaken 16) hhost

/-- The `L` bytes of a name and the two of its port, behind the length byte `L` (R428). -/
theorem follows_domain_body {n : BitVec 9} (hn : n.toNat = u.rDlen.toNat + 2) (hp : u.phase = .busy) (hs : u.shutReq = false)
    (htag : u.rAtyp = 0x03) (hc : u.consumed.toNat = taken) (htaken : taken ≤ 5)
    (hh : u.host = answers.map Answer.event ++ tail) :
    Follows ((streamRead (u.rDlen.toNat + 2) taken answers).andThen fun body k r =>
      .done (.domain (body.take u.rDlen.toNat) (be16 (at0 body u.rDlen.toNat) (at0 body (u.rDlen.toNat + 1)))) k r)
      (enter .adDbody n u) tail (HoldsAddress u.op u.rVer u.rCmd u.rRsv) := by
  have hL := u.rDlen.isLt
  rw [← hn]
  refine follows_enter hp hs hc hh (by omega) (by omega) (by omega) fun v bs rest hlen hv => ?_
  obtain ⟨hf, -, hhost, -, -, -, hop, -, hver, hcmd, hrsv, hatyp, hdlen, -⟩ := hv.fields
  rw [← hdlen] at hn hL ⊢
  have hname : (copyGroup v v.rDlen.toNat v.rName).toList.take v.rDlen.toNat = bs.take v.rDlen.toNat :=
    hv.take_copyGroup (Nat.le_of_lt_succ hL) (by omega)
  have hport : be16 (v.gbyte v.rDlen.toNat) (v.gbyte (v.rDlen.toNat + 1)) =
      be16 (at0 bs v.rDlen.toNat) (at0 bs (v.rDlen.toNat + 1)) := by
    rw [hv.gbyte (by omega), hv.gbyte (by omega)]
  refine ⟨completeAdDbody v, by simp only [complete, hf], ?_⟩
  rw [← hop, ← hver, ← hcmd, ← hrsv, ← hname, ← hport]
  exact follows_addrDone hv.consumed hhost (holdsAddress_domain
    (u := { v with
      rName := copyGroup v v.rDlen.toNat v.rName
      rPort := be16 (v.gbyte v.rDlen.toNat) (v.gbyte (v.rDlen.toNat + 1)) }) (hatyp.trans htag))

/-- The length byte of a name, and the body it announces (R427). -/
theorem follows_domain (hp : u.phase = .busy) (hs : u.shutReq = false) (htag : u.rAtyp = 0x03) (hc : u.consumed.toNat = taken)
    (htaken : taken ≤ 4) (hh : u.host = answers.map Answer.event ++ tail) :
    Follows ((streamRead 1 taken answers).andThen fun len k r =>
      (streamRead ((at0 len 0).toNat + 2) k r).andThen fun body k r =>
        .done (.domain (body.take (at0 len 0).toNat)
          (be16 (at0 body (at0 len 0).toNat) (at0 body ((at0 len 0).toNat + 1)))) k r) (enter .adDlen 1 u) tail
      (HoldsAddress u.op u.rVer u.rCmd u.rRsv) := by
  refine follows_enter (n := 1) hp hs hc hh (by decide) (by decide) (by omega) fun v bs rest hlen hv => ?_
  replace hlen : bs.length = 1 := hlen
  obtain ⟨hf, -, hhost, hphase, hshut, -, hop, -, hver, hcmd, hrsv, hatyp, -⟩ := hv.fields
  refine ⟨completeAdDlen v, by simp only [complete, hf], ?_⟩
  rw [← hop, ← hver, ← hcmd, ← hrsv, ← hv.gbyte (i := 0) (by omega)]
  exact follows_domain_body (u := { v with rDlen := v.gbyte 0 }) (by simp only; bv_omega) (hphase.trans hp) (hshut.trans hs)
    (hatyp.trans htag) hv.consumed (Nat.add_le_add_right htaken 1) hhost

/-! ## An address -/

/-- From the tag's group, the machine follows `DecodeAddress` (R420, R421, R422, R429). -/
theorem follows_decodeAddress (hp : u.phase = .busy) (hs : u.shutReq = false) (hc : u.consumed.toNat = taken) (htaken : taken ≤ 3)
    (hh : u.host = answers.map Answer.event ++ tail) :
    Follows (decodeAddress u.allowDomain taken answers) (enter .adTag 1 u) tail (HoldsAddress u.op u.rVer u.rCmd u.rRsv) := by
  refine follows_enter (n := 1) hp hs hc hh (by decide) (by decide) (by omega) fun v bs rest hlen hv => ?_
  replace hlen : bs.length = 1 := hlen
  obtain ⟨hf, hn, hhost, hphase, hshut, -, hop, hallow, hver, hcmd, hrsv, -⟩ := hv.fields
  replace hphase := hphase.trans hp
  replace hshut := hshut.trans hs
  have htaken' : taken + 1 ≤ 4 := Nat.add_le_add_right htaken 1
  rw [← hop, ← hver, ← hcmd, ← hrsv, ← hallow, ← hv.gbyte (i := 0) (by omega)]
  by_cases h1 : v.gbyte 0 = 0x01
  · rw [if_pos h1]
    exact ⟨_, (complete_adTag hf (decodeAtyp_ipv4 h1)).trans (whenDispatched_ready hf hn h1),
      follows_ip4 (u := recordTag 0x01 v) hphase hshut rfl hv.consumed htaken' hhost⟩
  by_cases h4 : v.gbyte 0 = 0x04
  · rw [if_neg h1, if_pos h4]
    exact ⟨_, (complete_adTag hf (decodeAtyp_ipv6 h4)).trans (whenDispatched_ready hf hn h4),
      follows_ip6 (u := recordTag 0x04 v) hphase hshut rfl hv.consumed htaken' hhost⟩
  by_cases h3 : v.gbyte 0 = 0x03
  · rw [if_neg h1, if_neg h4, if_pos h3]
    cases ha : v.allowDomain
    · exact ⟨_, (complete_adTag hf (decodeAtyp_domain h3)).trans (exec_atypDomain_rejected hf hn h3 ha),
        follows_raise (u := recordTag 0x03 v) hv.consumed hhost⟩
    · exact ⟨_, (complete_adTag hf (decodeAtyp_domain h3)).trans (exec_atypDomain_allowed hf hn h3 ha),
        follows_domain (u := recordTag 0x03 v) hphase hshut rfl hv.consumed htaken' hhost⟩
  · rw [if_neg h1, if_neg h4, if_neg h3]
    exact ⟨_, complete_adTag_unknown hf h1 h3 h4, follows_raise (u := recordTag (v.gbyte 0) v) hv.consumed hhost⟩

/-! ## The commands -/

/-- A command's step leads to the state its row answers. -/
theorem Follows.of_command {α : Type} {x : SeqRun α} {holds : State → α → Prop} {w b0 b1 b2 b3 : Byte} {n : BitVec 10}
    {events : List Event} (hh : s.host = .cmd w b0 b1 b2 b3 n :: events) (hp : s.phase = .idle)
    (ht : exec (decodeCmd w) (latch w b0 b1 b2 b3 n (withHost events s)) = .next t) (hx : Follows x t tail holds) :
    Follows x s tail holds :=
  .of_step ((step_cons hh).trans ((onEvent_cmd_idle (s := withHost events s) hp).trans ht)) hx

/-- ADDR and SADDR open the tag's group, with the domain form allowed or not, and `DecodeAddress` goes on. -/
theorem follows_address_command {w b0 b1 b2 b3 : Byte} {n : BitVec 10} {c : BitVec 4} {allow : Bool} (hflags : FlagsOk s)
    (hp : s.phase = .idle) (hh : s.host = .cmd w b0 b1 b2 b3 n :: (answers.map Answer.event ++ tail))
    (hrow : ∀ u : State, u.phase = .idle →
      exec (decodeCmd w) u = .next (startGroup .adTag 1 { accept c u with allowDomain := allow })) :
    Follows (decodeAddress allow 0 answers) s tail (HoldsAddress c s.rVer s.rCmd s.rRsv) := by
  have hshut := (hflags.quiet (by simp [hp])).2
  refine .of_command hh hp (hrow _ hp) ?_
  exact follows_decodeAddress (taken := 0)
    (u := { accept c (latch w b0 b1 b2 b3 n (withHost (answers.map Answer.event ++ tail) s)) with
      allowDomain := allow, phase := .busy }) rfl hshut rfl (by decide) rfl

/-- Settles O53: `follows_address_command` for the rows of the two words, whose operations are not REQ. -/
theorem addressStepsFollowTheProgram : Obligations.AddressStepsFollowTheProgram := by
  intro s b0 b1 b2 b3 n answers tail hflags hp
  refine ⟨fun hh => ?addr, fun hh => ?saddr⟩
  case addr =>
    exact (follows_address_command hflags hp hh fun _ => whenIdle_idle).mono fun _ _ h => ⟨h.wireAddress, h.address, h.kind⟩
  case saddr =>
    exact (follows_address_command hflags hp hh fun _ => whenIdle_idle).mono fun _ _ h => ⟨h.wireAddress, h.address, h.kind⟩

/-! ## A request header -/

/-- The result is the request with command byte, reserved byte and address `r` (R484). -/
def HoldsRequest (t : State) (r : Byte × Byte × WireAddress) : Prop :=
  t.rVer = 0x05 ∧ t.rCmd = r.1 ∧ t.rRsv = r.2.1 ∧ t.wireAddress = .ok r.2.2 ∧ t.resKind = .request ∧
    ∃ h : RequestHeader, t.requestHeader = .ok h ∧ h.rsv = r.2.1 ∧ h.address = r.2.2.value

theorem exists_commandOf {c : Byte} (h : isCommand c) : ∃ k, commandOf c = some k := by
  obtain rfl | rfl | rfl := h
  · exact ⟨.connect, rfl⟩
  · exact ⟨.bind, rfl⟩
  · exact ⟨.udpAssociate, rfl⟩

/-- An address of REQ behind a checked header is the request. -/
theorem HoldsAddress.request {c rsv : Byte} {a : WireAddress} (h : HoldsAddress 0x4 0x05 c rsv t a) (hc : isCommand c)
    (hp : t.phase = .done) (hst : t.resStatus = .ok) : HoldsRequest t (c, rsv, a) := by
  obtain ⟨hwire, haddr, hkind, hver, hcmd, hrsv⟩ := h
  obtain ⟨k, hk⟩ := exists_commandOf hc
  have hrequest : t.hasKind .request = true := hasKind_iff.mpr ⟨hasStatus_iff.mpr ⟨hp, hst⟩, hkind⟩
  refine ⟨hver, hcmd, hrsv, hwire, hkind, ⟨k, rsv, a.value⟩, ?_, rfl, rfl⟩
  simp only [State.requestHeader, hrequest, if_true, hcmd, hk, haddr, hrsv]

/-- From the header's group, the machine follows `DecodeRequest` (R480, R482). -/
theorem follows_decodeRequest (hp : u.phase = .busy) (hs : u.shutReq = false) (hop : u.op = 0x4) (hallow : u.allowDomain = true)
    (hc : u.consumed.toNat = 0) (hh : u.host = answers.map Answer.event ++ tail) :
    Follows (decodeRequest answers) (enter .rqHdr 3 u) tail HoldsRequest := by
  refine follows_enter (n := 3) hp hs hc hh (by decide) (by decide) (by decide) fun v bs rest hlen hv => ?_
  replace hlen : bs.length = 3 := hlen
  obtain ⟨hf, hn, hhost, hphase, hshut, -, hop', hallow', -⟩ := hv.fields
  rw [← hv.gbyte (i := 0) (by omega), ← hv.gbyte (i := 1) (by omega), ← hv.gbyte (i := 2) (by omega)]
  by_cases h5 : v.gbyte 0 = Config.supportedVer
  · rw [if_pos h5]
    by_cases hcmd : v.gbyte 1 = 0x01 ∨ v.gbyte 1 = 0x02 ∨ v.gbyte 1 = 0x03
    · rw [if_pos hcmd]
      have haddr : Follows (decodeAddress true (0 + 3) rest) (recordReqHeader v) tail
          (HoldsAddress 0x4 Config.supportedVer (v.gbyte 1) (v.gbyte 2)) := by
        rw [← hallow'.trans hallow, ← hop'.trans hop, ← h5]
        exact follows_decodeAddress (u := { v with rVer := v.gbyte 0, rCmd := v.gbyte 1, rRsv := v.gbyte 2 })
          (hphase.trans hp) (hshut.trans hs) hv.consumed (by decide) hhost
      exact ⟨_, complete_rqHdr_command hf hn h5 hcmd, haddr.map fun t a hd hst h => h.request hcmd hd hst⟩
    · obtain ⟨h1, h2, h3⟩ : v.gbyte 1 ≠ 0x01 ∧ v.gbyte 1 ≠ 0x02 ∧ v.gbyte 1 ≠ 0x03 := by simpa using hcmd
      rw [if_neg hcmd]
      exact ⟨_, complete_rqHdr_unknown hf hn h5 h1 h2 h3, follows_raise hv.consumed hhost⟩
  · rw [if_neg h5]
    exact ⟨_, complete_rqHdr_mismatch hf h5, follows_raise hv.consumed hhost⟩

/-- Settles O55: the command opens the header's group, and `follows_decodeRequest` goes on. -/
theorem requestStepsFollowTheProgram : Obligations.RequestStepsFollowTheProgram := by
  intro s b0 b1 b2 b3 n answers tail hflags hp hh
  have hshut := (hflags.quiet (by simp [hp])).2
  refine .of_command hh hp (whenIdle_idle hp) ?_
  exact follows_decodeRequest
    (u := { accept 0x4 (latch 0x04 b0 b1 b2 b3 n (withHost (answers.map Answer.event ++ tail) s)) with
      allowDomain := true, phase := .busy }) rfl hshut rfl rfl rfl rfl

/-! ## A handshake -/

/-- The result is the method list `ms` of a request of the supported version (R453, R455). -/
def HoldsMethods (t : State) (ms : List Byte) : Prop := t.methods = .ok ms ∧ t.rVer = 0x05 ∧ t.rNmeth.toNat = ms.length

/-- The shutdown's answers, from the state that asks for it (R452). -/
theorem follows_shutdown {α : Type} {holds : State → α → Prop} (hp : s.phase = .busy) (hr : s.rdReq = false)
    (hs : s.shutReq = true) (hc : s.consumed.toNat = taken) (hh : s.host = answers.map Answer.event ++ tail) :
    Follows (shutdownThen s.rVer taken answers) s tail holds := by
  cases answers with
  | nil => exact ⟨s, reaches_refl s, hp, hc, hh⟩
  | cons a rest =>
    cases a with
    | shutOk =>
      refine .of_step ((step_cons hh).trans (onEvent_shutOk (s := withHost (rest.map Answer.event ++ tail) s) hs)) ?_
      exact follows_raise hc rfl
    | shutErr e =>
      refine .of_step ((step_cons hh).trans (onEvent_shutErr (s := withHost (rest.map Answer.event ++ tail) s) hs)) ?_
      exact follows_raise hc rfl
    | byte b => exact reachesNoMove_of_not_enabled hh hr
    | eof => exact reachesNoMove_of_not_enabled hh hr
    | rdErr e => exact reachesNoMove_of_not_enabled hh hr

theorem holdsMethods_finish {ms : List Byte} (hver : u.rVer = 0x05) (hms : u.rMethods.toList.take u.rNmeth.toNat = ms)
    (hlen : u.rNmeth.toNat = ms.length) : HoldsMethods (finish .handshake u) ms := by
  have hkind : (finish .handshake u).hasKind .handshake = true := hasKind_iff.mpr ⟨hasStatus_iff.mpr ⟨rfl, rfl⟩, rfl⟩
  refine ⟨?_, hver, hlen⟩
  rw [State.methods, hkind]
  exact congrArg Except.ok hms

/-- The method group (R453). -/
theorem follows_methods {n : BitVec 9} (hn : n.toNat = u.rNmeth.toNat) (hpos : 0 < n.toNat) (hp : u.phase = .busy)
    (hs : u.shutReq = false) (hver : u.rVer = 0x05) (hc : u.consumed.toNat = taken) (htaken : taken ≤ 2)
    (hh : u.host = answers.map Answer.event ++ tail) :
    Follows (streamRead u.rNmeth.toNat taken answers) (enter .hsMeth n u) tail HoldsMethods := by
  have hN := u.rNmeth.isLt
  rw [← SeqRun.andThen_done (streamRead _ _ _), ← hn]
  refine follows_enter hp hs hc hh hpos (by omega) (by omega) fun v bs rest hlen hv => ?_
  obtain ⟨hf, -, hhost, -, -, -, -, -, hver', -, -, -, -, -, hnmeth⟩ := hv.fields
  rw [← hnmeth] at hn hN
  have hms : (copyGroup v v.rNmeth.toNat v.rMethods).toList.take v.rNmeth.toNat = bs := by
    rw [hv.take_copyGroup (Nat.le_of_lt_succ hN) (by omega), ← hn, ← hlen, List.take_length]
  refine ⟨completeHsMeth v, complete_hsMeth hf, ?_⟩
  exact follows_finish (u := { v with rMethods := copyGroup v v.rNmeth.toNat v.rMethods }) hv.consumed hhost
    (holdsMethods_finish (hver'.trans hver) hms (hn.symm.trans hlen.symm))

/-- From the header's group, the machine follows `DecodeHandshake` (R450, R451). -/
theorem follows_decodeHandshake (hp : u.phase = .busy) (hs : u.shutReq = false) (hc : u.consumed.toNat = 0)
    (hh : u.host = answers.map Answer.event ++ tail) :
    Follows (decodeHandshake answers) (enter .hsHdr 2 u) tail HoldsMethods := by
  refine follows_enter (n := 2) hp hs hc hh (by decide) (by decide) (by decide) fun v bs rest hlen hv => ?_
  replace hlen : bs.length = 2 := hlen
  obtain ⟨hf, hn, hhost, hphase, hshut, hr, -⟩ := hv.fields
  rw [← hv.gbyte (i := 0) (by omega), ← hv.gbyte (i := 1) (by omega)]
  by_cases h5 : v.gbyte 0 = Config.supportedVer
  · rw [if_pos h5]
    by_cases hm : v.gbyte 1 = 0
    · rw [show (v.gbyte 1).toNat = 0 by rw [hm]; rfl]
      exact ⟨_, complete_hsHdr_empty hf hn h5 hm, follows_finish (u := enterEmpty .hsMeth (recordHsHeader v)) hv.consumed hhost
        (holdsMethods_finish h5 (by simp [hm]) (by simp [hm]))⟩
    · exact ⟨_, (complete_hsHdr_supported hf h5).trans (exec_hsVer_methods hf hn h5 hm),
        follows_methods (u := recordHsHeader v) (BitVec.toNat_setWidth_of_le (by decide)) (by bv_omega) (hphase.trans hp)
          (hshut.trans hs) h5 hv.consumed (by decide) hhost⟩
  · rw [if_neg h5]
    exact ⟨_, complete_hsHdr_mismatch hf h5,
      follows_shutdown (s := hsVersionMismatch v) (hphase.trans hp) hr rfl hv.consumed hhost⟩

/-- Settles O54: the command opens the header's group, and `follows_decodeHandshake` goes on. -/
theorem handshakeStepsFollowTheProgram : Obligations.HandshakeStepsFollowTheProgram := by
  intro s b0 b1 b2 b3 n answers tail hflags hp hh
  have hshut := (hflags.quiet (by simp [hp])).2
  refine .of_command hh hp (whenIdle_idle hp) ?_
  exact follows_decodeHandshake
    (u := { accept 0x1 (latch 0x01 b0 b1 b2 b3 n (withHost (answers.map Answer.event ++ tail) s)) with phase := .busy })
    rfl hshut rfl rfl

end Sys2Proof.Machine
end

section
/-! PROOFS. The frames of the wire (30_encoding section 3, R310 to R312): the programs give back what a frame lays out, and the
machine follows the programs. -/

namespace Sys2Proof.Machine

variable {tail : List Event} {rest : List Answer} {taken : Nat}

/-! ## Reading bytes that are there -/

theorem streamRead_bytes (bs : List Byte) : ∀ taken : Nat,
    streamRead bs.length taken (bs.map Answer.byte ++ rest) = .done bs (taken + bs.length) rest := by
  induction bs with
  | nil => exact fun _ => rfl
  | cons b bs ih =>
    intro taken
    rw [List.length_cons, List.map_cons, List.cons_append, streamRead, ih, SeqRun.andThen, Nat.add_right_comm, Nat.add_assoc]

/-- A read of `n` bytes takes the next `n` bytes of a frame. -/
theorem streamRead_append {n : Nat} {bs cs : List Byte} (h : bs.length = n) :
    streamRead n taken ((bs ++ cs).map Answer.byte ++ rest) = .done bs (taken + n) (cs.map Answer.byte ++ rest) := by
  subst h
  rw [List.map_append, List.append_assoc, streamRead_bytes]

theorem streamRead_all {n : Nat} {bs : List Byte} (h : bs.length = n) :
    streamRead n taken (bs.map Answer.byte ++ rest) = .done bs (taken + n) rest := by
  subst h
  exact streamRead_bytes bs taken

theorem streamRead_one (b : Byte) : streamRead 1 taken (.byte b :: rest) = .done [b] (taken + 1) rest := rfl

/-- An array laid out at the front of a body. -/
theorem ofFn_at0_toList {m : Nat} (ip : Vector Byte m) (bs : List Byte) :
    (Vector.ofFn fun i : Fin m => at0 (ip.toList ++ bs) i.val) = ip := by
  apply Vector.ext
  intro i hi
  rw [Vector.getElem_ofFn, at0, List.getD_eq_getElem _ _ (by simp; omega), List.getElem_append_left (by simpa using hi),
    Vector.getElem_toList]

/-- A port's two bytes compose it (R220, R400). -/
theorem be16_portBytes (p : BitVec 16) : be16 (p.extractLsb' 8 8) (p.extractLsb' 0 8) = p := by
  apply BitVec.eq_of_toNat_eq
  rw [be16_toNat]
  simp only [BitVec.extractLsb'_toNat, Nat.shiftRight_eq_div_pow]
  omega

/-- The port behind `n` bytes of a body. -/
theorem be16_at0_portBytes {bs : List Byte} {n : Nat} (p : BitVec 16) (h : bs.length = n) :
    be16 (at0 (bs ++ portBytes p) n) (at0 (bs ++ portBytes p) (n + 1)) = p := by
  subst h
  simpa [at0, portBytes] using be16_portBytes p

/-! ## The programs on a frame -/

theorem decodeAddress_ip4 (ip : Vector Byte 4) (port : BitVec 16) :
    decodeAddress true taken ((addressFrame (.ip4 ip port)).map Answer.byte ++ rest) = .done (.ip4 ip port) (taken + 7) rest := by
  have hbody : streamRead 6 (taken + 1) ((ip.toList ++ portBytes port).map Answer.byte ++ rest) =
      .done (ip.toList ++ portBytes port) (taken + 7) rest := streamRead_all (by simp [portBytes])
  rw [decodeAddress, addressFrame, List.map_cons, List.cons_append, streamRead_one, SeqRun.andThen,
    if_pos (show at0 [0x01] 0 = 0x01 from rfl), hbody,    SeqRun.andThen, ofFn_at0_toList, be16_at0_portBytes port (by simp)]

theorem decodeAddress_ip6 (ip : Vector Byte 16) (port : BitVec 16) :
    decodeAddress true taken ((addressFrame (.ip6 ip port)).map Answer.byte ++ rest) = .done (.ip6 ip port) (taken + 19) rest := by
  have hip : streamRead 16 (taken + 1) ((ip.toList ++ portBytes port).map Answer.byte ++ rest) =
      .done ip.toList (taken + 17) ((portBytes port).map Answer.byte ++ rest) := streamRead_append (by simp)
  have hport : streamRead 2 (taken + 17) ((portBytes port).map Answer.byte ++ rest) = .done (portBytes port) (taken + 19) rest :=
    streamRead_all rfl
  have hvec := ofFn_at0_toList ip []
  have hbe := be16_at0_portBytes (bs := []) (n := 0) port rfl
  rw [List.append_nil] at hvec
  rw [List.nil_append] at hbe
  rw [decodeAddress, addressFrame, List.map_cons, List.cons_append, streamRead_one, SeqRun.andThen, if_neg (by decide),
    if_pos (show at0 [0x04] 0 = 0x04 from rfl), hip, SeqRun.andThen, hport, SeqRun.andThen, hvec, hbe]

theorem decodeAddress_domain {name : List Byte} {port : BitVec 16} (h : name.length ≤ 255) :
    decodeAddress true taken ((addressFrame (.domain name port)).map Answer.byte ++ rest) =
      .done (.domain name port) (taken + (4 + name.length)) rest := by
  have hlen : (BitVec.ofNat 8 name.length).toNat = name.length := by
    rw [BitVec.toNat_ofNat]
    omega
  have hbody : streamRead (name.length + 2) (taken + 1 + 1) ((name ++ portBytes port).map Answer.byte ++ rest) =
      .done (name ++ portBytes port) (taken + 1 + 1 + (name.length + 2)) rest := streamRead_all (by simp [portBytes])
  have hcount : taken + 1 + 1 + (name.length + 2) = taken + (4 + name.length) := by omega
  rw [decodeAddress, addressFrame, List.map_cons, List.map_cons, List.cons_append, List.cons_append, streamRead_one, SeqRun.andThen,
    if_neg (by decide), if_neg (by decide), if_pos (show at0 [0x03] 0 = 0x03 from rfl), if_pos rfl, streamRead_one, SeqRun.andThen,
    show at0 [BitVec.ofNat 8 name.length] 0 = BitVec.ofNat 8 name.length from rfl, hlen, hbody, SeqRun.andThen,
    be16_at0_portBytes port rfl, List.take_left, hcount]

/-- The sizes of the three frames (R311). -/
theorem length_addressFrame_ip4 (ip : Vector Byte 4) (port : BitVec 16) : (addressFrame (.ip4 ip port)).length = 7 := by
  simp [addressFrame, portBytes]

theorem length_addressFrame_ip6 (ip : Vector Byte 16) (port : BitVec 16) : (addressFrame (.ip6 ip port)).length = 19 := by
  simp [addressFrame, portBytes]

theorem length_addressFrame_domain (name : List Byte) (port : BitVec 16) :
    (addressFrame (.domain name port)).length = 4 + name.length := by
  simp only [addressFrame, portBytes, List.length_cons, List.length_append, List.length_nil]
  omega

/-- `DecodeAddress` gives back the address a frame lays out, and takes exactly the frame. -/
theorem decodeAddress_addressFrame {a : WireAddress} (h : a.encodable = true) :
    decodeAddress true taken ((addressFrame a).map Answer.byte ++ rest) = .done a (taken + (addressFrame a).length) rest := by
  cases a with
  | ip4 ip port => rw [decodeAddress_ip4, length_addressFrame_ip4]
  | ip6 ip port => rw [decodeAddress_ip6, length_addressFrame_ip6]
  | domain name port =>
    rw [decodeAddress_domain (by simpa [WireAddress.encodable, Config.maxDlen] using h), length_addressFrame_domain]

theorem decodeRequest_requestFrame {c rsv : Byte} {a : WireAddress} (h : a.encodable = true) (hc : isCommand c) :
    decodeRequest ((requestFrame c rsv a).map Answer.byte ++ rest) = .done (c, rsv, a) (requestFrame c rsv a).length rest := by
  have hheader : streamRead 3 0 ((requestFrame c rsv a).map Answer.byte ++ rest) =
      .done [Config.supportedVer, c, rsv] 3 ((addressFrame a).map Answer.byte ++ rest) :=
    streamRead_append (bs := [Config.supportedVer, c, rsv]) rfl
  have hver : at0 [Config.supportedVer, c, rsv] 0 = Config.supportedVer := rfl
  have hcmd : at0 [Config.supportedVer, c, rsv] 1 = c := rfl
  rw [decodeRequest, hheader, SeqRun.andThen, if_pos hver, hcmd, if_pos (by exact hc), decodeAddress_addressFrame h,
    SeqRun.andThen, Nat.add_comm]
  rfl

theorem decodeHandshake_handshakeFrame {ms : List Byte} (h : ms.length ≤ 255) :
    decodeHandshake ((handshakeFrame ms).map Answer.byte ++ rest) = .done ms (2 + ms.length) rest := by
  have hheader : streamRead 2 0 ((handshakeFrame ms).map Answer.byte ++ rest) =
      .done [Config.supportedVer, BitVec.ofNat 8 ms.length] 2 (ms.map Answer.byte ++ rest) :=
    streamRead_append (bs := [Config.supportedVer, BitVec.ofNat 8 ms.length]) rfl
  have hlen : (at0 [Config.supportedVer, BitVec.ofNat 8 ms.length] 1).toNat = ms.length := Nat.mod_eq_of_lt (Nat.lt_succ_of_le h)
  rw [decodeHandshake, hheader, SeqRun.andThen,
    if_pos (show at0 [Config.supportedVer, BitVec.ofNat 8 ms.length] 0 = Config.supportedVer from rfl), hlen, streamRead_all rfl]

/-! ## The machine on a frame -/

/-- A frame's bytes are the events of the answers that hold them. -/
theorem map_event_byte (frame : List Byte) : (frame.map Answer.byte ++ []).map Answer.event = frame.map Event.byte := by
  simp [Function.comp_def, Answer.event]

/-- Settles O56: ADDR follows `DecodeAddress`, which gives back the address of the frame. -/
theorem addressFrameIsDecoded : Obligations.AddressFrameIsDecoded := by
  intro s a tail hflags hp ha hh
  rw [← map_event_byte] at hh
  have hfollows := (addressStepsFollowTheProgram s 0 0 0 0 0 _ tail hflags hp).1 hh
  rw [decodeAddress_addressFrame ha] at hfollows
  obtain ⟨t, ht, -, -, ⟨hwire, haddr, -⟩, hcount, hrest⟩ := hfollows
  exact ⟨t, ht, hwire, haddr, hcount.trans (Nat.zero_add _), hrest⟩

/-- Settles O57: REQ follows `DecodeRequest`, which gives back the fields of the frame. -/
theorem requestFrameIsDecoded : Obligations.RequestFrameIsDecoded := by
  intro s c rsv a tail hflags hp ha hc hh
  rw [← map_event_byte] at hh
  have hfollows := requestStepsFollowTheProgram s 0 0 0 0 0 _ tail hflags hp hh
  rw [decodeRequest_requestFrame ha hc] at hfollows
  obtain ⟨t, ht, -, -, ⟨-, hcmd, hrsv, hwire, hkind, -⟩, hcount, hrest⟩ := hfollows
  exact ⟨t, ht, hcmd, hrsv, hwire, hkind, hcount, hrest⟩

/-- Settles O58: HS follows `DecodeHandshake`, which gives back the methods of the frame. -/
theorem handshakeFrameIsDecoded : Obligations.HandshakeFrameIsDecoded := by
  intro s ms tail hflags hp hlen hh
  rw [← map_event_byte] at hh
  have hfollows := handshakeStepsFollowTheProgram s 0 0 0 0 0 _ tail hflags hp hh
  rw [decodeHandshake_handshakeFrame hlen] at hfollows
  obtain ⟨t, ht, -, -, ⟨hms, -⟩, hcount, hrest⟩ := hfollows
  exact ⟨t, ht, hms, hcount, hrest⟩

end Sys2Proof.Machine
end
